-- ==== Sys2Proof/Word.lean ====
section
/-!
DEFINITION. The word types of the CHIP-8 core (spec/00_scope.md R9, R12). Every value is unsigned; a bit vector is
used for what the spec numbers, masks, shifts or wraps, and a natural number for what it only counts.
-/

namespace Sys2Proof

/-- An 8-bit cell of memory or general register (R9, R22, R40). -/
abbrev Byte := BitVec 8

/-- A 16-bit value: an opcode, the program counter, the address register, a stack entry (R9). -/
abbrev Word := BitVec 16

/-- The index of a general register V0 to VF: a 4-bit field X or Y, every value legal (R22, R62). -/
abbrev Reg := BitVec 4

/-- The index of a key, 0 to 15 (R160, R192, R193). -/
abbrev Key := BitVec 4

/-- A 12-bit immediate NNN (R62), and the type of an address inside the 4096-byte memory (R40). -/
abbrev Addr12 := BitVec 12

/-- The register that carries the flag results: VF (R24). -/
abbrev flagReg : Reg := 0xF#4

end Sys2Proof
end

