-- ==== Sys2Proof/Syntax.lean ====
section
/-!
DEFINITION. The instructions of the CHIP-8 core, one constructor per row of spec/opcode_table.json (spec/30_encoding.md
R73), and the six decoded fields (R61, R62). A constructor is named by the pattern the spec names its instruction by
(R76). Operands are typed by their field's width, so every term is an instruction the encoding can hold (R65, R72).
A field the spec ignores (N of 5XY0 and 9XY0, R68; Y of 8XY6 and 8XYE, R130, R132) is kept in the syntax, so that an
instruction and its opcode determine each other; no meaning reads it.
-/

namespace Sys2Proof

/-- The six fields of a decoded opcode (R61, R62). They overlap: NNN is X then NN, and NN is Y then N. -/
structure Fields where
  /-- bits 15 to 12, the group -/
  instruction : BitVec 4
  /-- bits 11 to 8 -/
  x : Reg
  /-- bits 7 to 4 -/
  y : Reg
  /-- bits 3 to 0 -/
  n : BitVec 4
  /-- bits 7 to 0 -/
  nn : Byte
  /-- bits 11 to 0 -/
  nnn : Addr12
deriving DecidableEq, Repr

/-- The 34 instructions (R73). -/
inductive Instr where
  /-- `00E0` clear the display (R151) -/
  | op00E0
  /-- `00EE` return from subroutine (R101) -/
  | op00EE
  /-- `1NNN` jump (R102) -/
  | op1NNN (nnn : Addr12)
  /-- `2NNN` call subroutine (R103) -/
  | op2NNN (nnn : Addr12)
  /-- `3XNN` skip if VX equals NN (R111) -/
  | op3XNN (x : Reg) (nn : Byte)
  /-- `4XNN` skip if VX differs from NN (R112) -/
  | op4XNN (x : Reg) (nn : Byte)
  /-- `5XY0` skip if VX equals VY; `n` is the ignored N field (R68, R113) -/
  | op5XY0 (x y : Reg) (n : BitVec 4)
  /-- `6XNN` load immediate (R121) -/
  | op6XNN (x : Reg) (nn : Byte)
  /-- `7XNN` add immediate, no carry (R122) -/
  | op7XNN (x : Reg) (nn : Byte)
  /-- `8XY0` copy register (R123) -/
  | op8XY0 (x y : Reg)
  /-- `8XY1` bitwise OR (R124) -/
  | op8XY1 (x y : Reg)
  /-- `8XY2` bitwise AND (R125) -/
  | op8XY2 (x y : Reg)
  /-- `8XY3` bitwise XOR (R126) -/
  | op8XY3 (x y : Reg)
  /-- `8XY4` add registers, with carry (R127) -/
  | op8XY4 (x y : Reg)
  /-- `8XY5` subtract VY from VX (R128) -/
  | op8XY5 (x y : Reg)
  /-- `8XY6` shift VX right by one; `y` is the unused Y field (R130) -/
  | op8XY6 (x y : Reg)
  /-- `8XY7` subtract VX from VY (R131) -/
  | op8XY7 (x y : Reg)
  /-- `8XYE` shift VX left by one; `y` is the unused Y field (R132) -/
  | op8XYE (x y : Reg)
  /-- `9XY0` skip if VX differs from VY; `n` is the ignored N field (R68, R114) -/
  | op9XY0 (x y : Reg) (n : BitVec 4)
  /-- `ANNN` load address register (R141) -/
  | opANNN (nnn : Addr12)
  /-- `BNNN` jump with offset V0 (R104) -/
  | opBNNN (nnn : Addr12)
  /-- `CXNN` random byte masked by NN (R133) -/
  | opCXNN (x : Reg) (nn : Byte)
  /-- `DXYN` draw an N-row sprite at VX, VY (R152) -/
  | opDXYN (x y : Reg) (n : BitVec 4)
  /-- `EX9E` skip if key pressed (R161) -/
  | opEX9E (x : Reg)
  /-- `EXA1` skip if key not pressed (R162) -/
  | opEXA1 (x : Reg)
  /-- `FX07` read the delay timer (R171) -/
  | opFX07 (x : Reg)
  /-- `FX0A` wait for a key and load its index (R163) -/
  | opFX0A (x : Reg)
  /-- `FX15` set the delay timer (R172) -/
  | opFX15 (x : Reg)
  /-- `FX18` set the sound timer (R173) -/
  | opFX18 (x : Reg)
  /-- `FX1E` add VX to I (R142) -/
  | opFX1E (x : Reg)
  /-- `FX29` point I at the font sprite of VX (R143) -/
  | opFX29 (x : Reg)
  /-- `FX33` store the decimal digits of VX (R144) -/
  | opFX33 (x : Reg)
  /-- `FX55` store V0 to VX at I (R145) -/
  | opFX55 (x : Reg)
  /-- `FX65` load V0 to VX from I (R146) -/
  | opFX65 (x : Reg)
deriving DecidableEq, Repr

/-- The instruction's name: its row's pattern in spec/opcode_table.json (R76). -/
def Instr.mnemonic : Instr → String
  | .op00E0 => "00E0"
  | .op00EE => "00EE"
  | .op1NNN _ => "1NNN"
  | .op2NNN _ => "2NNN"
  | .op3XNN _ _ => "3XNN"
  | .op4XNN _ _ => "4XNN"
  | .op5XY0 _ _ _ => "5XY0"
  | .op6XNN _ _ => "6XNN"
  | .op7XNN _ _ => "7XNN"
  | .op8XY0 _ _ => "8XY0"
  | .op8XY1 _ _ => "8XY1"
  | .op8XY2 _ _ => "8XY2"
  | .op8XY3 _ _ => "8XY3"
  | .op8XY4 _ _ => "8XY4"
  | .op8XY5 _ _ => "8XY5"
  | .op8XY6 _ _ => "8XY6"
  | .op8XY7 _ _ => "8XY7"
  | .op8XYE _ _ => "8XYE"
  | .op9XY0 _ _ _ => "9XY0"
  | .opANNN _ => "ANNN"
  | .opBNNN _ => "BNNN"
  | .opCXNN _ _ => "CXNN"
  | .opDXYN _ _ _ => "DXYN"
  | .opEX9E _ => "EX9E"
  | .opEXA1 _ => "EXA1"
  | .opFX07 _ => "FX07"
  | .opFX0A _ => "FX0A"
  | .opFX15 _ => "FX15"
  | .opFX18 _ => "FX18"
  | .opFX1E _ => "FX1E"
  | .opFX29 _ => "FX29"
  | .opFX33 _ => "FX33"
  | .opFX55 _ => "FX55"
  | .opFX65 _ => "FX65"

end Sys2Proof
end

