-- ==== Sys2Proof/Decode.lean ====
section
/-!
DEFINITION. The decoder and the encoder (spec/30_encoding.md). `decodeFields` is the Opcode Decoder of R61, a total
function with no validation (R63); `decode` is the dispatch of R66 to R72, which rejects every other opcode by name
(R75); `encode` writes the opcode of an instruction by the arithmetic of R64; `opcodeTable` is the table of R77.
-/

namespace Sys2Proof

/-- Why an opcode is no instruction. -/
inductive DecodeError where
  /-- the opcode has no row in the dispatch table (R67, R69, R70, R71, R75) -/
  | unknownOpcode (op : Word)
deriving DecidableEq, Repr

/-- Why bytes begin with no instruction. -/
inductive BytesError where
  /-- the first two bytes are no instruction's opcode -/
  | rejected (e : DecodeError)
  /-- fewer than the two bytes every instruction has (R60) -/
  | truncated (bytes : Nat)
deriving DecidableEq, Repr

/-- The fields of an opcode (R61, in the bit notation of R62). -/
def decodeFields (op : Word) : Fields :=
  { instruction := op.extractLsb' 12 4
    x := op.extractLsb' 8 4
    y := op.extractLsb' 4 4
    n := op.extractLsb' 0 4
    nn := op.extractLsb' 0 8
    nnn := op.extractLsb' 0 12 }

/-- Group 0 is selected by the whole opcode (R67). -/
def decodeGroup0 (op : Word) : Except DecodeError Instr :=
  match op.toNat with
  | 0x00E0 => .ok .op00E0
  | 0x00EE => .ok .op00EE
  | _ => .error (.unknownOpcode op)

/-- Group 8 is selected by N (R69). -/
def decodeGroup8 (op : Word) (f : Fields) : Except DecodeError Instr :=
  match f.n.toNat with
  | 0x0 => .ok (.op8XY0 f.x f.y)
  | 0x1 => .ok (.op8XY1 f.x f.y)
  | 0x2 => .ok (.op8XY2 f.x f.y)
  | 0x3 => .ok (.op8XY3 f.x f.y)
  | 0x4 => .ok (.op8XY4 f.x f.y)
  | 0x5 => .ok (.op8XY5 f.x f.y)
  | 0x6 => .ok (.op8XY6 f.x f.y)
  | 0x7 => .ok (.op8XY7 f.x f.y)
  | 0xE => .ok (.op8XYE f.x f.y)
  | _ => .error (.unknownOpcode op)

/-- Group E is selected by NN (R70). -/
def decodeGroupE (op : Word) (f : Fields) : Except DecodeError Instr :=
  match f.nn.toNat with
  | 0x9E => .ok (.opEX9E f.x)
  | 0xA1 => .ok (.opEXA1 f.x)
  | _ => .error (.unknownOpcode op)

/-- Group F is selected by NN (R71). -/
def decodeGroupF (op : Word) (f : Fields) : Except DecodeError Instr :=
  match f.nn.toNat with
  | 0x07 => .ok (.opFX07 f.x)
  | 0x0A => .ok (.opFX0A f.x)
  | 0x15 => .ok (.opFX15 f.x)
  | 0x18 => .ok (.opFX18 f.x)
  | 0x1E => .ok (.opFX1E f.x)
  | 0x29 => .ok (.opFX29 f.x)
  | 0x33 => .ok (.opFX33 f.x)
  | 0x55 => .ok (.opFX55 f.x)
  | 0x65 => .ok (.opFX65 f.x)
  | _ => .error (.unknownOpcode op)

/-- The dispatch by instruction nibble (R66 to R72). The last arm is D00's "Unrecognized instruction nibble", which no
4-bit value reaches (conflict C5). -/
def decode (op : Word) : Except DecodeError Instr :=
  let f := decodeFields op
  match f.instruction.toNat with
  | 0x0 => decodeGroup0 op
  | 0x1 => .ok (.op1NNN f.nnn)
  | 0x2 => .ok (.op2NNN f.nnn)
  | 0x3 => .ok (.op3XNN f.x f.nn)
  | 0x4 => .ok (.op4XNN f.x f.nn)
  | 0x5 => .ok (.op5XY0 f.x f.y f.n)
  | 0x6 => .ok (.op6XNN f.x f.nn)
  | 0x7 => .ok (.op7XNN f.x f.nn)
  | 0x8 => decodeGroup8 op f
  | 0x9 => .ok (.op9XY0 f.x f.y f.n)
  | 0xA => .ok (.opANNN f.nnn)
  | 0xB => .ok (.opBNNN f.nnn)
  | 0xC => .ok (.opCXNN f.x f.nn)
  | 0xD => .ok (.opDXYN f.x f.y f.n)
  | 0xE => decodeGroupE op f
  | 0xF => decodeGroupF op f
  | _ => .error (.unknownOpcode op)

/-- The opcode two bytes make: the byte at the lower address is the more significant one (R42, R46). -/
def bigEndian (high low : Byte) : Word := BitVec.ofNat 16 (high.toNat * 256 + low.toNat)

/-- The more significant byte of an opcode: the one stored at the lower address (R42). -/
def highByte (op : Word) : Byte := op.extractLsb' 8 8

/-- The less significant byte of an opcode. -/
def lowByte (op : Word) : Byte := op.extractLsb' 0 8

/-- The decoder on bytes as memory holds them: one instruction and the bytes after it. -/
def decodeBytes : List Byte → Except BytesError (Instr × List Byte)
  | high :: low :: rest =>
    match decode (bigEndian high low) with
    | .ok i => .ok (i, rest)
    | .error e => .error (.rejected e)
  | short => .error (.truncated short.length)

/-- `instruction * 4096 + X * 256 + Y * 16 + N` (R64). -/
def packXYN (instruction : BitVec 4) (x y : Reg) (n : BitVec 4) : Word :=
  BitVec.ofNat 16 (instruction.toNat * 4096 + x.toNat * 256 + y.toNat * 16 + n.toNat)

/-- `instruction * 4096 + X * 256 + NN` (R62, R64). -/
def packXNN (instruction : BitVec 4) (x : Reg) (nn : Byte) : Word :=
  BitVec.ofNat 16 (instruction.toNat * 4096 + x.toNat * 256 + nn.toNat)

/-- `instruction * 4096 + NNN` (R64). -/
def packNNN (instruction : BitVec 4) (nnn : Addr12) : Word :=
  BitVec.ofNat 16 (instruction.toNat * 4096 + nnn.toNat)

/-- The opcode of an instruction (R64, R66 to R72). -/
def encode : Instr → Word
  | .op00E0 => packNNN 0x0 0x0E0
  | .op00EE => packNNN 0x0 0x0EE
  | .op1NNN nnn => packNNN 0x1 nnn
  | .op2NNN nnn => packNNN 0x2 nnn
  | .op3XNN x nn => packXNN 0x3 x nn
  | .op4XNN x nn => packXNN 0x4 x nn
  | .op5XY0 x y n => packXYN 0x5 x y n
  | .op6XNN x nn => packXNN 0x6 x nn
  | .op7XNN x nn => packXNN 0x7 x nn
  | .op8XY0 x y => packXYN 0x8 x y 0x0
  | .op8XY1 x y => packXYN 0x8 x y 0x1
  | .op8XY2 x y => packXYN 0x8 x y 0x2
  | .op8XY3 x y => packXYN 0x8 x y 0x3
  | .op8XY4 x y => packXYN 0x8 x y 0x4
  | .op8XY5 x y => packXYN 0x8 x y 0x5
  | .op8XY6 x y => packXYN 0x8 x y 0x6
  | .op8XY7 x y => packXYN 0x8 x y 0x7
  | .op8XYE x y => packXYN 0x8 x y 0xE
  | .op9XY0 x y n => packXYN 0x9 x y n
  | .opANNN nnn => packNNN 0xA nnn
  | .opBNNN nnn => packNNN 0xB nnn
  | .opCXNN x nn => packXNN 0xC x nn
  | .opDXYN x y n => packXYN 0xD x y n
  | .opEX9E x => packXNN 0xE x 0x9E
  | .opEXA1 x => packXNN 0xE x 0xA1
  | .opFX07 x => packXNN 0xF x 0x07
  | .opFX0A x => packXNN 0xF x 0x0A
  | .opFX15 x => packXNN 0xF x 0x15
  | .opFX18 x => packXNN 0xF x 0x18
  | .opFX1E x => packXNN 0xF x 0x1E
  | .opFX29 x => packXNN 0xF x 0x29
  | .opFX33 x => packXNN 0xF x 0x33
  | .opFX55 x => packXNN 0xF x 0x55
  | .opFX65 x => packXNN 0xF x 0x65

/-- The two bytes of an instruction, in the order memory holds them (R42, R60). -/
def encodeBytes (i : Instr) : List Byte := [highByte (encode i), lowByte (encode i)]

/-- One row of the opcode table: an opcode is the row's instruction when its bits under `mask` are `pattern` (R77). -/
structure OpcodeRow where
  mnemonic : String
  pattern : Word
  mask : Word
deriving DecidableEq, Repr

/-- The rows whose group holds one instruction, or is selected by the whole opcode (R67, R68, R72). -/
def opcodeRowsByNibble : List OpcodeRow :=
  [⟨"00E0", 0x00E0, 0xFFFF⟩, ⟨"00EE", 0x00EE, 0xFFFF⟩, ⟨"1NNN", 0x1000, 0xF000⟩, ⟨"2NNN", 0x2000, 0xF000⟩,
   ⟨"3XNN", 0x3000, 0xF000⟩, ⟨"4XNN", 0x4000, 0xF000⟩, ⟨"5XY0", 0x5000, 0xF000⟩, ⟨"6XNN", 0x6000, 0xF000⟩,
   ⟨"7XNN", 0x7000, 0xF000⟩, ⟨"9XY0", 0x9000, 0xF000⟩, ⟨"ANNN", 0xA000, 0xF000⟩, ⟨"BNNN", 0xB000, 0xF000⟩,
   ⟨"CXNN", 0xC000, 0xF000⟩, ⟨"DXYN", 0xD000, 0xF000⟩]

/-- The rows of group 8 (R69). -/
def opcodeRowsGroup8 : List OpcodeRow :=
  [⟨"8XY0", 0x8000, 0xF00F⟩, ⟨"8XY1", 0x8001, 0xF00F⟩, ⟨"8XY2", 0x8002, 0xF00F⟩, ⟨"8XY3", 0x8003, 0xF00F⟩,
   ⟨"8XY4", 0x8004, 0xF00F⟩, ⟨"8XY5", 0x8005, 0xF00F⟩, ⟨"8XY6", 0x8006, 0xF00F⟩, ⟨"8XY7", 0x8007, 0xF00F⟩,
   ⟨"8XYE", 0x800E, 0xF00F⟩]

/-- The rows of groups E and F (R70, R71). -/
def opcodeRowsGroupsEF : List OpcodeRow :=
  [⟨"EX9E", 0xE09E, 0xF0FF⟩, ⟨"EXA1", 0xE0A1, 0xF0FF⟩, ⟨"FX07", 0xF007, 0xF0FF⟩, ⟨"FX0A", 0xF00A, 0xF0FF⟩,
   ⟨"FX15", 0xF015, 0xF0FF⟩, ⟨"FX18", 0xF018, 0xF0FF⟩, ⟨"FX1E", 0xF01E, 0xF0FF⟩, ⟨"FX29", 0xF029, 0xF0FF⟩,
   ⟨"FX33", 0xF033, 0xF0FF⟩, ⟨"FX55", 0xF055, 0xF0FF⟩, ⟨"FX65", 0xF065, 0xF0FF⟩]

/-- The machine-readable opcode table, spec/opcode_table.json (R77). -/
def opcodeTable : List OpcodeRow := opcodeRowsByNibble ++ opcodeRowsGroup8 ++ opcodeRowsGroupsEF

/-- The opcode is the row's instruction (R77). -/
def OpcodeRow.matchesOp (r : OpcodeRow) (op : Word) : Bool := op &&& r.mask == r.pattern

/-- The first word of an instruction whose bits, numbered as spec/opcode_table.json numbers them, are `w`: bits from
`nbits` up are 0, and every instruction is one word (R60). -/
def tableWord (nbits w : Nat) : Word := BitVec.ofNat 16 (w % 2 ^ nbits)

/-- The instruction the decoder reads from the bytes of a table word, laid out big-endian (R42). -/
def decodeTableWord (nbits w : Nat) : Option Instr :=
  match decodeBytes [highByte (tableWord nbits w), lowByte (tableWord nbits w)] with
  | .ok (i, _) => some i
  | .error _ => none

end Sys2Proof
end

