-- ==== Sys2Proof/Config.lean ====
section
/-!
DEFINITION. What is fixed for the life of the core (spec/00_scope.md R9, R10, spec/40_cycle.md R90) and the free values.
The parameters stand in the machine's State, where no instruction writes them, so a statement about every state is a
statement about every configuration; `Config` is the record the host configures a core with before reset.
The opaque constants have no body: nothing can be proved about the values they give, which is what the spec asks of
the answers of the display, the keyboard and the random source (R91, D17 to D19) and of the timer scaler (D2).
-/

namespace Sys2Proof

/-- The number of memory cells: addresses 0 to 4095 (R9, R40). -/
abbrev memorySize : Nat := 4096

/-- `SKIP_KEY_INDEX`: which key EX9E and EXA1 test (R10, R160, D13). -/
inductive SkipKeyIndex where
  /-- the key named by the instruction's X field -/
  | nibbleX
  /-- the key named by the value of VX -/
  | registerVX
deriving DecidableEq, Repr

/-- The parameters the host fixes for the life of the core (R10); their legal values are `Config.wellFormed`
(WellFormed.lean). `ENTRY_PC`, which the host writes to pc before the first cycle, is an argument of the boot
(Machine/Boot.lean, D16). -/
structure Config where
  /-- `TIMER_SCALER`, S: cycles per timer unit, at least 1 (R36, D2) -/
  timerScaler : Nat
  /-- `TIMER_BITS`: the width of DT and ST, at least the bit length of 255·S, and 8 when S is 1 (R34, D3) -/
  timerBits : Nat
  /-- `STACK_LIMIT`: `none`, or a number L of entries, at least 1 (R33, D4) -/
  stackLimit : Option Nat
  /-- `SKIP_KEY_INDEX` (R160, D13) -/
  skipKeyIndex : SkipKeyIndex
deriving DecidableEq, Repr

/-- Free value: the configured timer scaler less one, so that the scaler itself is any integer from 1 up (R36, D2: OPEN,
"no default is normative"; log entry 2). -/
opaque Config.freeScalerLessOne : Nat

/-- Free value: how many bits wider than the bit length of 255·S the timers are when S is above 1 (R10, D3: OPEN, "any
width that holds 255·S"; log entry 3). -/
opaque Config.freeExtraTimerBits : Nat

/-- Free value: what a timer of `bits` bits holds after a write of a value it cannot hold. No legal configuration has
such a write (R34, R134), and the spec gives no result for it (log entry 3). -/
opaque Config.freeTimerWrite : (ticks bits : Nat) → BitVec bits

/-- Free value: what `Rand()` answers at the n-th collaborator call of a run (R194, D18; log entry 5). -/
opaque Config.freeRandom : Nat → Byte

/-- Free value: what `Display.flip` answers at the n-th collaborator call of a run (R191, D17; log entry 5). -/
opaque Config.freeFlip : Nat → Bool

/-- Free value: what `Key.pressed` answers at the n-th collaborator call of a run (R192, D19; log entry 5). -/
opaque Config.freePressed : Nat → Bool

/-- Free value: what `Key.any` answers at the n-th collaborator call of a run (R193, D19; log entry 5). -/
opaque Config.freeAnyKey : Nat → Option Key

/-- Free value: what FX07 reads of a timer of `t` ticks when `s`, the scaler, is 0, or `t` is above 255·s: values the
spec rules out and gives no result for (R36, R134, R171; log entry 23). -/
opaque Config.freeTimerRead : (t s : Nat) → Byte

/-- The number of bits that hold every timer value 0 to 255·S: the bit length of 255·S (R10, R34). -/
def leastTimerBits (scaler : Nat) : Nat := Nat.log2 (255 * scaler) + 1

/-- The width of the timers of the core that `State.reset` stands for: 8 bits when S is 1, and otherwise any width that
holds 255·S (R10, R34, D3; log entry 3). -/
def Config.coreTimerBits (scaler : Nat) : Nat :=
  if scaler = 1 then 8 else leastTimerBits scaler + Config.freeExtraTimerBits

/-- The configuration of the core that `State.reset` stands for: any scaler from 1 up, and any legal width of the timers
for it; no stack limit, which "reproduces
D00's core" (R10); the key index of D00's literal text (R160). DESIGN CHOICE: log entries 2, 3, 4 and
6. -/
def Config.core : Config :=
  { timerScaler := Config.freeScalerLessOne + 1
    timerBits := Config.coreTimerBits (Config.freeScalerLessOne + 1)
    stackLimit := none
    skipKeyIndex := .nibbleX }

end Sys2Proof
end

