-- ==== Sys2Proof/Machine/State.lean ====
section
/-!
DEFINITION. The state of the core (spec/10_state.md R20 to R39), the reasons a cycle can stop, and the state after
reset (spec/70_reset_and_hazards.md R200). The first eight fields of `State` are the spec's CPU State, field for field
(R20). Then come the configuration (R10), the outputs of the interface of one cycle (R85, R90, R150), and the model's
own source of the collaborators' answers (R91).
-/

namespace Sys2Proof.Machine

/-- The memory contents as a sparse list of cells: addresses strictly rising below 4096, no cell equal to 0, which is
what an unlisted address reads as (R40, R200; `Memory.wf` in Machine/Ops.lean). -/
abbrev Memory := List Host.Cell

/-- What a cycle reported to the host when it did not fault (R85). -/
inductive Report where
  /-- no cycle has run since reset -/
  | idle
  /-- the instruction rule completed; the timers tick -/
  | executed
  /-- FX0A found no key pressed; nothing changed -/
  | waiting
deriving DecidableEq, Repr

/-- One call on a collaborator, with the answer it gave (R90, R190 to R194). -/
inductive Call where
  /-- `Display.clear()`, no answer (R190) -/
  | clear
  /-- `Display.flip(x, y)`; `on` is the pixel's resulting state (R191) -/
  | flip (x y : Nat) (on : Bool)
  /-- `Key.pressed(k)` (R192) -/
  | pressed (k : Key) (down : Bool)
  /-- `Key.any()`; `none` is "no key pressed" (R193) -/
  | anyKey (answer : Option Key)
  /-- `Rand()` (R194) -/
  | random (answer : Byte)
deriving DecidableEq, Repr

/-- The machine. -/
structure State where
  /-- `memory`: 4096 cells of 8 bits (R40) -/
  memory : Memory
  /-- V0 to VF (R22) -/
  registers : Vector Byte 16
  /-- I (R27) -/
  addressRegister : Word
  /-- pc (R28) -/
  programCounter : Word
  /-- the saved program-counter values, the top of the stack first (R32) -/
  stack : List Word
  /-- DT, a counter of `timerBits` bits: every write of it keeps it below 2 ^ `timerBits` (R34) -/
  delayTimer : Nat
  /-- ST, a counter of `timerBits` bits, as DT (R34) -/
  soundTimer : Nat
  /-- S: written by no instruction (R36) -/
  timerScaler : Nat
  /-- `TIMER_BITS`, the width of DT and ST: written by no instruction (R10, R34) -/
  timerBits : Nat
  /-- `STACK_LIMIT`: written by no instruction (R33) -/
  stackLimit : Option Nat
  /-- `SKIP_KEY_INDEX`: written by no instruction (R160) -/
  skipKeyIndex : SkipKeyIndex
  /-- output: what the last completed cycle reported (R85) -/
  report : Report
  /-- output: every collaborator call so far, the oldest first (R150, D22) -/
  calls : List Call
  /-- input: the answers of `Rand()` lined up for the coming calls; when none is left, the answer is free (R194) -/
  randomInputs : List Byte
  /-- input: the answers of `Display.flip` lined up for the coming calls; when none is left, the answer is free (R191) -/
  flipInputs : List Bool
  /-- input: the answers of `Key.pressed` lined up for the coming calls; when none is left, the answer is free (R192) -/
  pressedInputs : List Bool
  /-- input: the answers of `Key.any` lined up for the coming calls; when none is left, the answer is free (R193) -/
  anyKeyInputs : List (Option Key)
  /-- the model's own: how many answers have been drawn, the argument of the next free answer -/
  draws : Nat
deriving DecidableEq, Repr

/-- Why a cycle stops: the faults of spec/60_exceptions.md. A fault changes no state (R181) and is final for the model
(R189, D15). -/
inductive Fault where
  /-- Raised by the dispatch for an opcode that is no instruction, with the opcode (R182). D00's own error: safe. -/
  | unknownOpcode (op : Word)
  /-- Raised by the fetch when pc is above 4094, with pc (R187, D7). Safe: the spec gives no other effect. -/
  | fetchOutOfRange (pc : Word)
  /-- Raised by DXYN, FX33, FX55 and FX65 before any effect when an address they would access is 4096 or more, with the
  first such address (R186, D6). Safe: the spec gives no other effect. -/
  | memoryOutOfRange (address : Nat)
  /-- Raised by 2NNN when the stack holds `STACK_LIMIT` entries, with the call's pc (R184, D4). Safe. -/
  | stackOverflow (pc : Word)
  /-- Raised by 00EE when the stack is empty, with the return's pc (R185, D5). Safe. -/
  | stackUnderflow (pc : Word)
deriving DecidableEq, Repr

/-- Why the model gives no meaning. -/
inductive Refusal where
  /-- Raised by an arm of `exec` whose instruction has no meaning yet; no arm raises it. Safe: nothing can be proved of a
  run that stops here. -/
  | notModelled (mnemonic : String)
deriving DecidableEq, Repr

/-- The state a core of configuration `c` has after reset (R200, R36): every field zeroed, the stack empty, the scaler
the configured one. No cycle has run, no collaborator has been called, and no answer is lined up (log entry 5). -/
def State.resetWith (c : Config) : State :=
  { memory := []
    registers := Vector.replicate 16 0
    addressRegister := 0
    programCounter := 0
    stack := []
    delayTimer := 0
    soundTimer := 0
    timerScaler := c.timerScaler
    timerBits := c.timerBits
    stackLimit := c.stackLimit
    skipKeyIndex := c.skipKeyIndex
    report := .idle
    calls := []
    randomInputs := []
    flipInputs := []
    pressedInputs := []
    anyKeyInputs := []
    draws := 0 }

/-- The machine right after reset (R200). -/
def State.reset : State := State.resetWith Config.core

end Sys2Proof.Machine
end

