-- ==== Sys2Proof/Machine/Ops.lean ====
section
/-!
DEFINITION. The named operations over memory, registers, the stack, the program counter and the outcome of a cycle.
Every read and write of the state by a meaning goes through here. Raising a fault is one operation, `raise`: the core
has no trap mechanism, so a fault saves nothing, changes nothing and transfers control nowhere, and there is no return
from one (spec/60_exceptions.md R180, R181, R189).
-/

namespace Sys2Proof.Machine

/-- What an instruction answers. -/
abbrev Result := Host.Outcome State Fault Refusal

/-! ### Memory (spec/20_memory.md) -/

/-- The byte at an address; an unlisted address reads as 0 (R41, R200). The range check is `State.spanFault`. -/
def Memory.read : Memory → Nat → Byte
  | [], _ => 0
  | (b, v) :: rest, a => if a = b then v else if a < b then 0 else Memory.read rest a

/-- Put a cell in front unless it is what an unlisted address reads as. -/
def Memory.consCell (a : Nat) (v : Byte) (m : Memory) : Memory := if v = 0 then m else (a, v) :: m

/-- Store one byte and keep the canonical form (R43). -/
def Memory.write : Memory → Nat → Byte → Memory
  | [], a, v => Memory.consCell a v []
  | (b, w) :: rest, a, v =>
    if a = b then Memory.consCell a v rest
    else if a < b then Memory.consCell a v ((b, w) :: rest)
    else (b, w) :: Memory.write rest a v

/-- The bytes at `a`, `a + 1`, …, `n` of them, in ascending order (R50). -/
def Memory.readBytes (m : Memory) (a : Nat) : Nat → List Byte
  | 0 => []
  | n + 1 => m.read a :: m.readBytes (a + 1) n

/-- Store bytes at `a`, `a + 1`, … in ascending order (R50). -/
def Memory.writeBytes : Memory → Nat → List Byte → Memory
  | m, _, [] => m
  | m, a, b :: bs => Memory.writeBytes (m.write a b) (a + 1) bs

/-- Every cell's address lies from `low` up and below 4096, addresses rise strictly, and no cell holds 0. -/
def Memory.wfFrom (low : Nat) : Memory → Bool
  | [] => true
  | (a, v) :: rest => decide (low ≤ a) && decide (a < memorySize) && decide (v ≠ 0) && Memory.wfFrom (a + 1) rest

/-- The canonical form of memory (R40, R200): equal contents are equal lists. -/
def Memory.wf (m : Memory) : Bool := Memory.wfFrom 0 m

/-! ### Registers (spec/10_state.md) -/

/-- Read V[i] (R14, R22). -/
def State.V (s : State) (i : Reg) : Byte := s.registers[i.toNat]'i.isLt

/-- Write V[i] (R14, R22). -/
def State.setV (s : State) (i : Reg) (v : Byte) : State := { s with registers := s.registers.set i.toNat v i.isLt }

/-- Write I (R27). -/
def State.setI (s : State) (v : Word) : State := { s with addressRegister := v }

/-- Write pc (R28, R30). -/
def State.setPc (s : State) (v : Word) : State := { s with programCounter := v }

/-- Write DT (R34). -/
def State.setDelay (s : State) (v : Nat) : State := { s with delayTimer := v }

/-- Write ST (R34). -/
def State.setSound (s : State) (v : Nat) : State := { s with soundTimer := v }

/-- Replace the memory contents. -/
def State.setMemory (s : State) (m : Memory) : State := { s with memory := m }

/-- Replace the stack. -/
def State.setStack (s : State) (l : List Word) : State := { s with stack := l }

/-- Write what the cycle reports (R85). -/
def State.setReport (s : State) (r : Report) : State := { s with report := r }

/-- V[k], V[k+1], … written from a list in ascending order (R146). -/
def State.loadV : State → Nat → List Byte → State
  | s, _, [] => s
  | s, k, b :: bs => State.loadV (s.setV (BitVec.ofNat 4 k) b) (k + 1) bs

/-! ### The stack (spec/10_state.md R32, R33) -/

/-- The stack holds as many entries as `STACK_LIMIT` allows (R33). -/
def State.stackFull (s : State) : Bool :=
  match s.stackLimit with
  | none => false
  | some l => decide (s.stack.length = l)

/-- `push(v)` (R32). -/
def State.push (s : State) (v : Word) : State := s.setStack (v :: s.stack)

/-! ### The program counter (spec/10_state.md R29, R30) -/

/-- `pc <- p + 2`, modulo 65536 (R29, R30). -/
def State.advance (s : State) : State := s.setPc (s.programCounter + 2)

/-- A skip: `pc <- p + 4` when the condition holds, and `pc <- p + 2` otherwise (R110). -/
def State.skipIf (s : State) (condition : Bool) : State :=
  if condition then s.setPc (s.programCounter + 4) else s.advance

/-! ### How an instruction ends (spec/40_cycle.md R85) -/

/-- The instruction rule completed: the cycle reports `Executed`. -/
def complete (s : State) : Result := .next (s.setReport .executed)

/-- Raise a fault: the cycle ends at once and changes no state (R180, R181). -/
def raise (f : Fault) : Result := .fault f

/-- The one check of an access of `count` bytes at I, I+1, …: if one of them lies at 4096 or above, the fault that
records the first such address (R45, R140, R186). No bytes, no check (R152). -/
def State.spanFault (s : State) (count : Nat) : Option Fault :=
  if 0 < count ∧ 4095 < s.addressRegister.toNat + (count - 1) then
    some (.memoryOutOfRange (max s.addressRegister.toNat 4096))
  else none

/-- Run an instruction's effect only when its access of `count` bytes at I is in range (R45). -/
def withSpan (s : State) (count : Nat) (effect : State) : Result :=
  match s.spanFault count with
  | some f => raise f
  | none => complete effect

/-- The opcode at an address of memory, its first byte the more significant (R42). -/
def Memory.readWord (m : Memory) (a : Nat) : Word := bigEndian (m.read a) (m.read (a + 1))

/-- Store an opcode at an address, as a loader does (R42, R57). -/
def Memory.writeWord (m : Memory) (a : Nat) (op : Word) : Memory := m.writeBytes a [highByte op, lowByte op]

end Sys2Proof.Machine
end

