-- ==== Sys2Proof/Machine/Operands.lean ====
section
/-!
DEFINITION. The operand forms: immediates widened with zeros (spec/30_encoding.md R65), the key index (R160), the font
address (R143), the decimal digits (R144), the timer conversions (R36, R171, R172) and a sprite's pixels (R152).
-/

namespace Sys2Proof.Machine

/-- `zext_16(NNN)` (R12, R65). -/
def addressOf (nnn : Addr12) : Word := nnn.setWidth 16

/-- An 8-bit register as an offset to a 16-bit one (R65). -/
def offsetOf (v : Byte) : Word := v.setWidth 16

/-- `V[X] * 5`, the whole register, not its low nibble (R143). -/
def fontAddress (v : Byte) : Word := offsetOf v * 5

/-- The hundreds, tens and units of a byte (R144). -/
def decimalDigits (v : Byte) : List Byte :=
  [BitVec.ofNat 8 (v.toNat / 100), BitVec.ofNat 8 (v.toNat / 10 % 10), BitVec.ofNat 8 (v.toNat % 10)]

/-- V0 to VX, X included (R13, R145). -/
def State.block (s : State) (x : Reg) : List Byte := s.registers.toList.take (x.toNat + 1)

/-- The quotient rounded up (R14). -/
def ceilDiv (a b : Nat) : Nat := (a + b - 1) / b

/-- A register value in timer ticks: `V[X] * S` (R36, R172). -/
def State.toTicks (s : State) (v : Byte) : Nat := v.toNat * s.timerScaler

/-- What a timer holds after a write of `ticks`: the value itself, never masked, since every legal width holds every
value FX15 and FX18 write (R34, R134, D3). A value that does not fit, which only an illegal width meets, leaves a free
value of the timer's width (log entry 3). -/
def State.heldTicks (s : State) (ticks : Nat) : Nat :=
  if ticks < 2 ^ s.timerBits then ticks else (Config.freeTimerWrite ticks s.timerBits).toNat

/-- Timer ticks as a register value: `ceil(t / S)` (R36, R171). It fits 8 bits because S is at least 1 and a timer never
exceeds 255·S; outside those ranges, which no legal core reaches, the spec states no value and it is free (log entry
23). -/
def State.fromTicks (s : State) (t : Nat) : Byte :=
  if 1 ≤ s.timerScaler ∧ t ≤ 255 * s.timerScaler then BitVec.ofNat 8 (ceilDiv t s.timerScaler)
  else Config.freeTimerRead t s.timerScaler

/-- The key EX9E and EXA1 test; `none` when V[X] is above 15 and names no key (R160). -/
def State.keyIndex (s : State) (x : Reg) : Option Key :=
  match s.skipKeyIndex with
  | .nibbleX => some x
  | .registerVX => if (s.V x).toNat ≤ 15 then some ((s.V x).setWidth 4) else none

/-- The columns of a sprite row's set bits, the leftmost (bit 7) first (R152, R153). -/
def setColumns (row : Byte) : List Nat := (List.range 8).filter fun col => row.getLsbD (7 - col)

/-- The coordinates of a sprite's set bits in row-major order, the top row first, not reduced (R153, R154). -/
def spritePixels (x0 y0 : Nat) : List Byte → List (Nat × Nat)
  | [] => []
  | row :: rows => (setColumns row).map (fun col => (x0 + col, y0)) ++ spritePixels x0 (y0 + 1) rows

end Sys2Proof.Machine
end

