-- ==== Sys2Proof/Machine/Timers.lean ====
section
/-!
DEFINITION. Timers: FX07, FX15, FX18, and the timer tick (spec/47_timers.md).
-/

namespace Sys2Proof.Machine

/-- `Tick()`: both counters down by one, floored at 0 (R170). -/
def State.tick (s : State) : State := (s.setDelay (s.delayTimer - 1)).setSound (s.soundTimer - 1)

/-- `FX07` (R171): rounded up. -/
def execFX07 (x : Reg) (s : State) : Result := complete (s.setV x (s.fromTicks s.delayTimer)).advance

/-- `FX15` (R172). -/
def execFX15 (x : Reg) (s : State) : Result := complete (s.setDelay (s.heldTicks (s.toTicks (s.V x)))).advance

/-- `FX18` (R173). -/
def execFX18 (x : Reg) (s : State) : Result := complete (s.setSound (s.heldTicks (s.toTicks (s.V x)))).advance

end Sys2Proof.Machine
end

