-- ==== Sys2Proof/Machine/Cycle.lean ====
section
/-!
DEFINITION. The parts of one cycle around the instruction: the fetch, the fault of a failed decode, and what follows the
instruction (spec/40_cycle.md R80 to R88).
-/

namespace Sys2Proof.Machine

/-- The fetch: the opcode at pc, or the fault of a pc above 4094 (R46, R47, R187). -/
def fetch (s : State) : Except Fault Word :=
  if s.programCounter.toNat > 4094 then .error (.fetchOutOfRange s.programCounter)
  else .ok (s.memory.readWord s.programCounter.toNat)

/-- A decode that fails raises UnknownOpcode with the raw opcode (R182). -/
def decodeFault : DecodeError → Fault
  | .unknownOpcode op => .unknownOpcode op

/-- The end of a cycle that did not fault: the timers tick when it reports `Executed`, and nothing happens when it
reports `Waiting` (R80, R85, R170). -/
def State.endCycle (s : State) : State :=
  match s.report with
  | .executed => s.tick
  | .waiting => s
  | .idle => s

end Sys2Proof.Machine
end

