-- ==== Sys2Proof/Machine/Collaborators.lean ====
section
/-!
DEFINITION. The calls on the display, the keyboard and the random source (spec/60_exceptions.md R190 to R195). A call is
recorded with its answer. An answer is the next one lined up as an input, and a free value when none is: the model
fixes no answer the host has not given (R91, D17 to D19; log entry 5).
-/

namespace Sys2Proof.Machine

/-- The next answer of `Rand()` (R194). -/
def State.randomAnswer (s : State) : Byte := s.randomInputs.head?.getD (Config.freeRandom s.draws)

/-- The next answer of `Display.flip` (R191). -/
def State.flipAnswer (s : State) : Bool := s.flipInputs.head?.getD (Config.freeFlip s.draws)

/-- The next answer of `Key.pressed` (R192). -/
def State.pressedAnswer (s : State) : Bool := s.pressedInputs.head?.getD (Config.freePressed s.draws)

/-- The next answer of `Key.any` (R193). -/
def State.anyKeyAnswer (s : State) : Option Key := s.anyKeyInputs.head?.getD (Config.freeAnyKey s.draws)

/-- `Display.clear()`: a side effect of the display, no answer (R190). -/
def State.callClear (s : State) : State := { s with calls := s.calls ++ [.clear] }

/-- After one `Rand()` (R194). -/
def State.callRandom (s : State) : State :=
  { s with calls := s.calls ++ [.random s.randomAnswer], randomInputs := s.randomInputs.tail, draws := s.draws + 1 }

/-- After one `Display.flip(x, y)` (R191). -/
def State.callFlip (s : State) (x y : Nat) : State :=
  { s with calls := s.calls ++ [.flip x y s.flipAnswer], flipInputs := s.flipInputs.tail, draws := s.draws + 1 }

/-- After one `Key.pressed(k)` (R192). -/
def State.callPressed (s : State) (k : Key) : State :=
  { s with calls := s.calls ++ [.pressed k s.pressedAnswer], pressedInputs := s.pressedInputs.tail, draws := s.draws + 1 }

/-- After one `Key.any()` (R193). -/
def State.callAnyKey (s : State) : State :=
  { s with calls := s.calls ++ [.anyKey s.anyKeyAnswer], anyKeyInputs := s.anyKeyInputs.tail, draws := s.draws + 1 }

/-- Flip pixels in order: whether one of the answers was off, and the state after the calls (R152, R153). -/
def State.flipAll : State → List (Nat × Nat) → Bool × State
  | s, [] => (false, s)
  | s, (x, y) :: pixels =>
    let later := State.flipAll (s.callFlip x y) pixels
    (!s.flipAnswer || later.1, later.2)

/-- Ask whether a key is pressed. No key, no call, and the answer is no (R160). -/
def State.askKey (s : State) : Option Key → Bool × State
  | none => (false, s)
  | some k => (s.pressedAnswer, s.callPressed k)

end Sys2Proof.Machine
end

