-- ==== Sys2Proof/Machine/Flags.lean ====
section
/-!
DEFINITION. The flag results of the core, all of them carried by VF (spec/10_state.md R24). The order of a flag write
against the result's write is each instruction's own (R25).
-/

namespace Sys2Proof.Machine

/-- Write a flag result to VF (R24). -/
def State.setFlag (s : State) (flag : Byte) : State := s.setV flagReg flag

/-- 8XY4: 1 when the 9-bit sum exceeds 255 (R127). -/
def carryFlag (a b : Byte) : Byte := if a.toNat + b.toNat > 255 then 1 else 0

/-- 8XY5 and 8XY7: 1 when the subtraction does not borrow, equality included (R128, R131). -/
def notBorrowFlag (minuend subtrahend : Byte) : Byte := if minuend.toNat < subtrahend.toNat then 0 else 1

/-- 8XY6: the bit shifted out on the right (R130). -/
def shiftRightFlag (a : Byte) : Byte := a &&& 1

/-- 8XYE: the bit shifted out on the left (R132). -/
def shiftLeftFlag (a : Byte) : Byte := (a >>> 7) &&& 1

/-- DXYN: 1 when a flip answered off (R152, R155). -/
def collisionFlag (collided : Bool) : Byte := if collided then 1 else 0

end Sys2Proof.Machine
end

