-- ==== Sys2Proof/Machine/Alu.lean ====
section
/-!
DEFINITION. Register arithmetic and logic: 6XNN, 7XNN, 8XY0 to 8XYE, CXNN (spec/43_alu.md). All arithmetic is unsigned
modulo 256, and none of these can fault (R120).
-/

namespace Sys2Proof.Machine

/-- `6XNN` (R121). -/
def exec6XNN (x : Reg) (nn : Byte) (s : State) : Result := complete (s.setV x nn).advance

/-- `7XNN` (R122): VF is no carry here. -/
def exec7XNN (x : Reg) (nn : Byte) (s : State) : Result := complete (s.setV x (s.V x + nn)).advance

/-- `8XY0` (R123). -/
def exec8XY0 (x y : Reg) (s : State) : Result := complete (s.setV x (s.V y)).advance

/-- `8XY1` (R124): VF is not reset. -/
def exec8XY1 (x y : Reg) (s : State) : Result := complete (s.setV x (s.V x ||| s.V y)).advance

/-- `8XY2` (R125): VF is not reset. -/
def exec8XY2 (x y : Reg) (s : State) : Result := complete (s.setV x (s.V x &&& s.V y)).advance

/-- `8XY3` (R126): VF is not reset. -/
def exec8XY3 (x y : Reg) (s : State) : Result := complete (s.setV x (s.V x ^^^ s.V y)).advance

/-- `8XY4` (R127): the flag is written after the sum, from the old operands. -/
def exec8XY4 (x y : Reg) (s : State) : Result :=
  complete ((s.setV x (s.V x + s.V y)).setFlag (carryFlag (s.V x) (s.V y))).advance

/-- `8XY5` (R128): the flag is written after the difference, from the old operands. -/
def exec8XY5 (x y : Reg) (s : State) : Result :=
  complete ((s.setV x (s.V x - s.V y)).setFlag (notBorrowFlag (s.V x) (s.V y))).advance

/-- `8XY6` (R130): the flag is written first, and the shift reads VX after it (conflict C2). Y is not read. -/
def exec8XY6 (x _y : Reg) (s : State) : Result :=
  let t := s.setFlag (shiftRightFlag (s.V x))
  complete (t.setV x (t.V x >>> 1)).advance

/-- `8XY7` (R131): the flag is written after the difference, from the old operands. -/
def exec8XY7 (x y : Reg) (s : State) : Result :=
  complete ((s.setV x (s.V y - s.V x)).setFlag (notBorrowFlag (s.V y) (s.V x))).advance

/-- `8XYE` (R132): the flag is written first, and the shift reads VX after it (conflict C2). Y is not read. -/
def exec8XYE (x _y : Reg) (s : State) : Result :=
  let t := s.setFlag (shiftLeftFlag (s.V x))
  complete (t.setV x (t.V x <<< 1)).advance

/-- `CXNN` (R133): one call of the random source, also when NN is 0. -/
def execCXNN (x : Reg) (nn : Byte) (s : State) : Result :=
  complete (s.callRandom.setV x (s.randomAnswer &&& nn)).advance

end Sys2Proof.Machine
end

