-- ==== Sys2Proof/Machine/ControlFlow.lean ====
section
/-!
DEFINITION. Control transfer: 00EE, 1NNN, 2NNN, BNNN (spec/41_control_flow.md). No target is checked when it is written
(R100).
-/

namespace Sys2Proof.Machine

/-- `00EE` (R101): pop the call's own address and go to the instruction after it. -/
def exec00EE (s : State) : Result :=
  match s.stack with
  | [] => raise (.stackUnderflow s.programCounter)
  | t :: rest => complete ((s.setStack rest).setPc (t + 2))

/-- `1NNN` (R102). -/
def exec1NNN (nnn : Addr12) (s : State) : Result := complete (s.setPc (addressOf nnn))

/-- `2NNN` (R103): the pushed value is the address of the call itself. -/
def exec2NNN (nnn : Addr12) (s : State) : Result :=
  if s.stackFull then raise (.stackOverflow s.programCounter)
  else complete ((s.push s.programCounter).setPc (addressOf nnn))

/-- `BNNN` (R104): the sum is not reduced modulo 4096. -/
def execBNNN (nnn : Addr12) (s : State) : Result := complete (s.setPc (addressOf nnn + offsetOf (s.V 0x0)))

end Sys2Proof.Machine
end

