-- ==== Sys2Proof/Machine/Display.lean ====
section
/-!
DEFINITION. Display: 00E0, DXYN (spec/45_display.md). The core holds no pixel; it makes calls and reads the answers of
`flip` (R150).
-/

namespace Sys2Proof.Machine

/-- `00E0` (R151). -/
def exec00E0 (s : State) : Result := complete s.callClear.advance

/-- `DXYN` (R152 to R155): the coordinates are read before VF is written, and VF is written after all flips. -/
def execDXYN (x y : Reg) (n : BitVec 4) (s : State) : Result :=
  let rows := s.memory.readBytes s.addressRegister.toNat n.toNat
  let drawn := s.flipAll (spritePixels (s.V x).toNat (s.V y).toNat rows)
  withSpan s n.toNat (drawn.2.setFlag (collisionFlag drawn.1)).advance

end Sys2Proof.Machine
end

