-- ==== Sys2Proof/Machine/IndexMemory.lean ====
section
/-!
DEFINITION. Address register and memory transfer: ANNN, FX1E, FX29, FX33, FX55, FX65 (spec/44_index_memory.md). The
range of an access is checked before its first effect, and I is left as it is by the three transfers (R140).
-/

namespace Sys2Proof.Machine

/-- `ANNN` (R141). -/
def execANNN (nnn : Addr12) (s : State) : Result := complete (s.setI (addressOf nnn)).advance

/-- `FX1E` (R142): modulo 65536, no flag. -/
def execFX1E (x : Reg) (s : State) : Result := complete (s.setI (s.addressRegister + offsetOf (s.V x))).advance

/-- `FX29` (R143). -/
def execFX29 (x : Reg) (s : State) : Result := complete (s.setI (fontAddress (s.V x))).advance

/-- `FX33` (R144). -/
def execFX33 (x : Reg) (s : State) : Result :=
  withSpan s 3 (s.setMemory (s.memory.writeBytes s.addressRegister.toNat (decimalDigits (s.V x)))).advance

/-- `FX55` (R145). -/
def execFX55 (x : Reg) (s : State) : Result :=
  withSpan s (x.toNat + 1) (s.setMemory (s.memory.writeBytes s.addressRegister.toNat (s.block x))).advance

/-- `FX65` (R146). -/
def execFX65 (x : Reg) (s : State) : Result :=
  withSpan s (x.toNat + 1) (s.loadV 0 (s.memory.readBytes s.addressRegister.toNat (x.toNat + 1))).advance

end Sys2Proof.Machine
end

