-- ==== Sys2Proof/Machine/Keyboard.lean ====
section
/-!
DEFINITION. Keyboard: EX9E, EXA1, FX0A (spec/46_keyboard.md). The core keeps no key state (R160).
-/

namespace Sys2Proof.Machine

/-- `EX9E` (R161). -/
def execEX9E (x : Reg) (s : State) : Result :=
  let asked := s.askKey (s.keyIndex x)
  complete (asked.2.skipIf asked.1)

/-- `EXA1` (R162). -/
def execEXA1 (x : Reg) (s : State) : Result :=
  let asked := s.askKey (s.keyIndex x)
  complete (asked.2.skipIf (!asked.1))

/-- The state FX0A leaves, by the keyboard's answer: with no key pressed the cycle reports `Waiting` and the CPU state
is as it was; with a key, its index is in VX and pc has advanced (R163, R85). -/
def State.afterKey (s : State) (x : Reg) : Option Key → State
  | none => s.callAnyKey.setReport .waiting
  | some k => ((s.callAnyKey.setV x (k.setWidth 8)).advance).setReport .executed

/-- `FX0A` (R163). -/
def execFX0A (x : Reg) (s : State) : Result := .next (s.afterKey x s.anyKeyAnswer)

end Sys2Proof.Machine
end

