-- ==== Sys2Proof/Machine/Skips.lean ====
section
/-!
DEFINITION. Conditional skips on registers: 3XNN, 4XNN, 5XY0, 9XY0 (spec/42_skips.md).
-/

namespace Sys2Proof.Machine

/-- `3XNN` (R111). -/
def exec3XNN (x : Reg) (nn : Byte) (s : State) : Result := complete (s.skipIf (decide (s.V x = nn)))

/-- `4XNN` (R112). -/
def exec4XNN (x : Reg) (nn : Byte) (s : State) : Result := complete (s.skipIf (decide (s.V x ≠ nn)))

/-- `5XY0` (R113); the N field is ignored (R68, D12). -/
def exec5XY0 (x y : Reg) (_n : BitVec 4) (s : State) : Result := complete (s.skipIf (decide (s.V x = s.V y)))

/-- `9XY0` (R114); the N field is ignored (R68, D12). -/
def exec9XY0 (x y : Reg) (_n : BitVec 4) (s : State) : Result := complete (s.skipIf (decide (s.V x ≠ s.V y)))

end Sys2Proof.Machine
end

