-- ==== Sys2Proof/Machine/Step.lean ====
section
/-!
DEFINITION. One cycle of the core: fetch, decode, execute, tick (spec/40_cycle.md R80).
-/

namespace Sys2Proof.Machine

/-- One cycle (R80). A fault ends it at once: no state changes and the timers do not tick (R180, R181). -/
def step (s : State) : Host.Outcome State Fault Refusal :=
  match fetch s with
  | .error f => .fault f
  | .ok op =>
    match decode op with
    | .error e => .fault (decodeFault e)
    | .ok i =>
      match exec i s with
      | .next t => .next t.endCycle
      | .fault f => .fault f
      | .refused r => .refused r

/-- Store an instruction where the next cycle fetches: its two bytes at pc and pc + 1. When pc is above 4094, from
where nothing can be fetched (R47), pc is first set to its reset value 0, as the fetch needs. -/
def State.withFetchWord (s : State) (nbits w : Nat) : State :=
  if s.programCounter.toNat > 4094 then
    (s.setPc 0).setMemory (s.memory.writeWord 0 (tableWord nbits w))
  else s.setMemory (s.memory.writeWord s.programCounter.toNat (tableWord nbits w))

end Sys2Proof.Machine
end

