-- ==== Sys2Proof/WellFormed.lean ====
section
/-!
DEFINITION. The checks that the types do not make. Six fields belong to one opcode only when they overlap as R62 says; a
configuration is legal only in the ranges of R10. An instruction has no check left: each operand's type is its field's
width, and every value of every field is legal (spec/30_encoding.md R65, R68 to R72).
-/

namespace Sys2Proof

/-- The overlaps of R62: NNN is X then NN, and NN is Y then N. -/
def Fields.wellFormed (f : Fields) : Bool :=
  f.nnn.toNat == f.x.toNat * 256 + f.nn.toNat && f.nn.toNat == f.y.toNat * 16 + f.n.toNat

/-- The legal values of `TIMER_BITS` for a scaler: a width that holds 255·S, and 8 when S is 1 (R10, R34, D3). -/
def timerBitsWellFormed (scaler bits : Nat) : Bool :=
  decide (255 * scaler < 2 ^ bits) && decide (scaler = 1 → bits = 8)

/-- The legal values of R10: S at least 1; timers wide enough for it; no stack limit, or one of at least 1 entry. -/
def Config.wellFormed (c : Config) : Bool :=
  decide (1 ≤ c.timerScaler) && timerBitsWellFormed c.timerScaler c.timerBits &&
    (match c.stackLimit with | none => true | some l => decide (1 ≤ l))

/-- The legal values of `ENTRY_PC` (R10): an address from which a whole opcode can be fetched. -/
def entryWellFormed (entry : Word) : Bool := decide (entry.toNat ≤ 4094)

/-- Every instruction is well formed: its operands' types admit exactly the values of their fields (R22, R72). -/
def Instr.wellFormed (_ : Instr) : Bool := true

end Sys2Proof
end

