-- ==== Sys2Proof/Machine/Boot.lean ====
section
/-!
DEFINITION. What the host may do between cycles (spec/10_state.md R39, spec/20_memory.md R57): write memory and pc, as
its boot does before the first cycle (spec/70_reset_and_hazards.md R203). No cycle does any of this.
-/

namespace Sys2Proof.Machine

/-- The host writes one byte between cycles (R57). -/
def State.hostWrite (s : State) (a : Addr12) (v : Byte) : State := s.setMemory (s.memory.write a.toNat v)

/-- The host loads an image at `base`; `none` when it does not fit the memory (R57, R203). -/
def State.hostLoad (s : State) (base : Nat) (image : List Byte) : Option State :=
  if base + image.length ≤ memorySize then some (s.setMemory (s.memory.writeBytes base image)) else none

/-- The host's boot, in the order of R203: reset, the font from address 0, the program image, pc at `ENTRY_PC`. `none`
when a parameter, `ENTRY_PC` among them, has no legal value (R10) or an image does not fit. -/
def State.boot (c : Config) (font : List Byte) (base : Nat) (image : List Byte) (entry : Word) : Option State :=
  if c.wellFormed && entryWellFormed entry then
    match (State.resetWith c).hostLoad 0 font with
    | none => none
    | some withFont =>
      match withFont.hostLoad base image with
      | none => none
      | some loaded => some (loaded.setPc entry)
  else none

end Sys2Proof.Machine
end

