-- ==== Sys2Proof/Machine/Faults.lean ====
section
/-!
DEFINITION. What a fault reports to the host: its cause code and, for UnknownOpcode, its message
(spec/60_exceptions.md R182 to R187, D14).
-/

namespace Sys2Proof.Machine

/-- The cause code, a label of the spec's own (D14). -/
def Fault.code : Fault → Nat
  | .unknownOpcode _ => 1
  | .fetchOutOfRange _ => 2
  | .memoryOutOfRange _ => 3
  | .stackOverflow _ => 4
  | .stackUnderflow _ => 5

/-- What the fault records: an opcode, a pc or an address (R182, R184 to R187). -/
def Fault.info : Fault → Nat
  | .unknownOpcode op => op.toNat
  | .fetchOutOfRange pc => pc.toNat
  | .memoryOutOfRange address => address
  | .stackOverflow pc => pc.toNat
  | .stackUnderflow pc => pc.toNat

/-- The uppercase hexadecimal digit of a value below 16. -/
def hexDigit (d : Nat) : Char := if d < 10 then Char.ofNat (48 + d) else Char.ofNat (55 + d)

/-- Four uppercase hexadecimal digits, zero-padded. -/
def hexWord (op : Word) : List Char :=
  [hexDigit (op.toNat / 4096 % 16), hexDigit (op.toNat / 256 % 16), hexDigit (op.toNat / 16 % 16),
   hexDigit (op.toNat % 16)]

/-- The message of UnknownOpcode, with D00's spelling (R183). The spec gives the other faults no message. -/
def Fault.message : Fault → Option String
  | .unknownOpcode op => some (String.ofList ("Unknown optcode 0x".toList ++ hexWord op))
  | .fetchOutOfRange _ => none
  | .memoryOutOfRange _ => none
  | .stackOverflow _ => none
  | .stackUnderflow _ => none

end Sys2Proof.Machine
end

