-- ==== Sys2Proof/Safety.lean ====
section
/-!
DEFINITION. The terms claims are stated in: what a run without a fault is (D22), the invariants of the core, and what
"unchanged" means for each part of the state.
-/

namespace Sys2Proof.Machine

/-- The next `k` cycles end in no fault and no refusal: the run reaches a state (D22). -/
def State.runsSafely (s : State) (k : Nat) : Prop := ∃ t, Sys2Proof.core.run k s = .next t

/-- The opcode the next cycle fetches: `memory[pc] * 256 + memory[pc + 1]` (R46). -/
def State.opcode (s : State) : Word := s.memory.readWord s.programCounter.toNat

/-- The next cycle fetches in range and decodes the instruction `i` (R46, R47). -/
abbrev State.Runs (s : State) (i : Instr) : Prop := s.programCounter.toNat ≤ 4094 ∧ decode s.opcode = .ok i

/-- How many bytes at I an instruction accesses (the table of R50). -/
def accessBytes : Instr → Nat
  | .opDXYN _ _ n => n.toNat
  | .opFX33 _ => 3
  | .opFX55 x => x.toNat + 1
  | .opFX65 x => x.toNat + 1
  | _ => 0

/-- The invariant of the core: memory in canonical form (R40), a legal scaler (R36), a legal width of the timers (R10),
both timers within 0 to 255·S, which that width holds (R34), a stack within a legal limit (R33). -/
structure State.Inv (s : State) : Prop where
  memory : s.memory.wf = true
  scaler : 1 ≤ s.timerScaler
  width : timerBitsWellFormed s.timerScaler s.timerBits = true
  delay : s.delayTimer ≤ 255 * s.timerScaler
  sound : s.soundTimer ≤ 255 * s.timerScaler
  stack : ∀ l, s.stackLimit = some l → 1 ≤ l ∧ s.stack.length ≤ l

/-- Both timers are values of `TIMER_BITS` bits (R34). -/
structure State.TimersFit (s : State) : Prop where
  delay : s.delayTimer < 2 ^ s.timerBits
  sound : s.soundTimer < 2 ^ s.timerBits

/-- pc is at most the largest target, NNN + V0 = 0x10FE, and every stack entry is the address of a fetched call (R30). -/
structure State.PcBounded (s : State) : Prop where
  pc : s.programCounter.toNat ≤ 0x10FE
  entries : ∀ e ∈ s.stack, e.toNat ≤ 4094

/-- Every byte of memory reads as before. -/
def SameMemory (s t : State) : Prop := ∀ a, t.memory.read a = s.memory.read a

/-- Every general register but those `changed` names reads as before. -/
def SameRegistersBut (changed : Reg → Prop) (s t : State) : Prop := ∀ r, ¬ changed r → t.V r = s.V r

/-- Every general register reads as before. -/
def SameRegisters (s t : State) : Prop := ∀ r, t.V r = s.V r

/-- Both timers are as before. -/
def SameTimers (s t : State) : Prop := t.delayTimer = s.delayTimer ∧ t.soundTimer = s.soundTimer

/-- The parameters are as before (R10, R36). -/
def SameConfig (s t : State) : Prop :=
  t.timerScaler = s.timerScaler ∧ t.timerBits = s.timerBits ∧ t.stackLimit = s.stackLimit ∧ t.skipKeyIndex = s.skipKeyIndex

/-- No collaborator has been called: no call recorded, no answer taken (R150, R190 to R194). -/
def SameCollaborators (s t : State) : Prop :=
  t.calls = s.calls ∧ t.draws = s.draws ∧ t.randomInputs = s.randomInputs ∧ t.flipInputs = s.flipInputs ∧
    t.pressedInputs = s.pressedInputs ∧ t.anyKeyInputs = s.anyKeyInputs

/-- No collaborator's answer has been taken but one of the random source (R194). -/
def OnlyRandomAnswerTaken (s t : State) : Prop :=
  t.draws = s.draws + 1 ∧ t.randomInputs = s.randomInputs.tail ∧ t.flipInputs = s.flipInputs ∧
    t.pressedInputs = s.pressedInputs ∧ t.anyKeyInputs = s.anyKeyInputs

/-- No collaborator's answer has been taken but one of `Key.pressed` (R192). -/
def OnlyPressedAnswerTaken (s t : State) : Prop :=
  t.draws = s.draws + 1 ∧ t.pressedInputs = s.pressedInputs.tail ∧ t.randomInputs = s.randomInputs ∧
    t.flipInputs = s.flipInputs ∧ t.anyKeyInputs = s.anyKeyInputs

/-- No collaborator's answer has been taken but one of `Key.any` (R193). -/
def OnlyAnyKeyAnswerTaken (s t : State) : Prop :=
  t.draws = s.draws + 1 ∧ t.anyKeyInputs = s.anyKeyInputs.tail ∧ t.randomInputs = s.randomInputs ∧
    t.flipInputs = s.flipInputs ∧ t.pressedInputs = s.pressedInputs

/-- No collaborator's answer has been taken but `n` of `Display.flip` (R191). -/
def OnlyFlipAnswersTaken (n : Nat) (s t : State) : Prop :=
  t.draws = s.draws + n ∧ t.flipInputs = s.flipInputs.drop n ∧ t.randomInputs = s.randomInputs ∧
    t.pressedInputs = s.pressedInputs ∧ t.anyKeyInputs = s.anyKeyInputs

/-- An answer is the first of those lined up, and when none is lined up the free one (R91). -/
def AnswerFrom {α : Type} (lined : List α) (free a : α) : Prop :=
  (∃ rest, lined = a :: rest) ∨ (lined = [] ∧ a = free)

/-- Everything but pc, the report and what concerns the collaborators is as before: the frame of the instructions that
call a collaborator, besides the register they write. -/
def OnlyCallsChange (s t : State) : Prop :=
  SameMemory s t ∧ t.addressRegister = s.addressRegister ∧ t.stack = s.stack ∧ SameTimers s t ∧ SameConfig s t

/-- Everything but the general registers, pc and the report is as before: the frame of the register instructions. -/
def OnlyRegistersChange (s t : State) : Prop :=
  SameMemory s t ∧ t.addressRegister = s.addressRegister ∧ t.stack = s.stack ∧ SameTimers s t ∧ SameConfig s t ∧
    SameCollaborators s t

/-- Everything but pc, the stack and the report is as before: the frame of control transfer. -/
def OnlyControlChanges (s t : State) : Prop :=
  SameMemory s t ∧ SameRegisters s t ∧ t.addressRegister = s.addressRegister ∧ SameTimers s t ∧ SameConfig s t ∧
    SameCollaborators s t

/-- Everything but I, pc and the report is as before. -/
def OnlyIndexChanges (s t : State) : Prop :=
  SameMemory s t ∧ SameRegisters s t ∧ t.stack = s.stack ∧ SameTimers s t ∧ SameConfig s t ∧ SameCollaborators s t

/-- Everything but memory, pc and the report is as before. -/
def OnlyMemoryChanges (s t : State) : Prop :=
  SameRegisters s t ∧ t.addressRegister = s.addressRegister ∧ t.stack = s.stack ∧ SameTimers s t ∧ SameConfig s t ∧
    SameCollaborators s t

/-- The eight fields of the spec's CPU State are as before (R20). -/
def SameCpuState (s t : State) : Prop :=
  t.memory = s.memory ∧ t.registers = s.registers ∧ t.addressRegister = s.addressRegister ∧
    t.programCounter = s.programCounter ∧ t.stack = s.stack ∧ SameTimers s t ∧ t.timerScaler = s.timerScaler

end Sys2Proof.Machine
end

