-- ==== Sys2Proof/Certificates/Slice0/Obligations.lean ====
section
/-!
DEFINITION. The statements for the provers, from the spec's numbered rules. An instruction's statement says its encoding
(for every opcode of its group and sub-code, what the decoder answers), when it completes and with what, when it faults,
and its frame. `t` is the state the instruction leaves before the timer tick, which belongs to the cycle (R80).
-/

open Sys2Proof Sys2Proof.Machine

/-! ### Encoding (spec/30_encoding.md) -/

/-- Decoding the opcode of an instruction gives the instruction back, every operand at every value. -/
def Obligations.DecodeOfEncode : Prop := ∀ i : Instr, decode (encode i) = .ok i

/-- An opcode that decodes is the opcode of the instruction it decodes to: no bit of it is dropped. For the bits no
meaning reads (the N of 5XY0 and 9XY0, the Y of 8XY6 and 8XYE) that is so because the model keeps them as operands, its
own choice of syntax (log entry 20). -/
def Obligations.EncodeOfDecode : Prop := ∀ (op : Word) (i : Instr), decode op = .ok i → encode i = op

/-- The two bytes of an instruction decode to it, the more significant byte first, and leave the bytes after them. -/
def Obligations.EncodedBytesDecode : Prop :=
  ∀ (i : Instr) (rest : List Byte), decodeBytes (encodeBytes i ++ rest) = .ok (i, rest)

/-- R61: the six fields are the masks and shifts D00 defines, for every 16-bit value. -/
def Obligations.FieldsAreMasks : Prop :=
  ∀ op : Word,
    (decodeFields op).instruction.toNat = (op.toNat >>> 12) &&& 0xF ∧
    (decodeFields op).nnn.toNat = op.toNat &&& 0xFFF ∧
    (decodeFields op).nn.toNat = op.toNat &&& 0xFF ∧
    (decodeFields op).n.toNat = op.toNat &&& 0xF ∧
    (decodeFields op).x.toNat = (op.toNat >>> 8) &&& 0xF ∧
    (decodeFields op).y.toNat = (op.toNat >>> 4) &&& 0xF

/-- The opcode is recovered from its fields, in the two ways the spec derives in R64. -/
def Obligations.FieldsReassemble : Prop :=
  ∀ op : Word,
    op.toNat = (decodeFields op).instruction.toNat * 4096 + (decodeFields op).nnn.toNat ∧
    op.toNat = (decodeFields op).instruction.toNat * 4096 + (decodeFields op).x.toNat * 256 +
      (decodeFields op).y.toNat * 16 + (decodeFields op).n.toNat

/-- The decoder and the opcode table agree: an opcode decodes exactly when a row matches it, to an instruction of that
row's name, and no opcode matches two rows. That the rows of 5XY0 and 9XY0 leave N free and that group 0 has no further
row are the spec's own decisions D12 and D11 (log entries 12 and 11). -/
def Obligations.DecoderAgreesWithTable : Prop :=
  ∀ op : Word,
    ((∃ i, decode op = .ok i) ↔ ∃ r ∈ opcodeTable, r.matchesOp op = true) ∧
    (∀ i, decode op = .ok i → ∃ r ∈ opcodeTable, r.matchesOp op = true ∧ r.mnemonic = i.mnemonic) ∧
    (∀ r₁ ∈ opcodeTable, ∀ r₂ ∈ opcodeTable, r₁.matchesOp op = true → r₂.matchesOp op = true → r₁ = r₂)

/-- Opcodes written out bit by bit from spec/opcode_table.json, one a family, and the instructions they stand for. -/
def Obligations.WrittenOutOpcodesDecode : Prop :=
  decode 0b0000000011101110 = .ok .op00EE ∧
  decode 0b0010001101000101 = .ok (.op2NNN 0x345) ∧
  decode 0b0011001100101010 = .ok (.op3XNN 3 0x2A) ∧
  decode 0b1000000100100100 = .ok (.op8XY4 1 2) ∧
  decode 0b1111001001010101 = .ok (.opFX55 2) ∧
  decode 0b1101000000010101 = .ok (.opDXYN 0 1 5) ∧
  decode 0b1110010110100001 = .ok (.opEXA1 5) ∧
  decode 0b1111000100010101 = .ok (.opFX15 1) ∧
  decode 0b1000000000001000 = .error (.unknownOpcode 0x8008)

/-- Groups 5 and 9 ignore N: every 5XYk executes as 5XY0 and every 9XYk as 9XY0. This is the spec's own decision D12
(log entry 12). -/
def Obligations.SkipGroupsIgnoreN : Prop :=
  ∀ (op : Word) (s : State),
    ((decodeFields op).instruction = 0x5 →
      ∃ i, decode op = .ok i ∧ exec i s = exec (.op5XY0 (decodeFields op).x (decodeFields op).y 0) s) ∧
    ((decodeFields op).instruction = 0x9 →
      ∃ i, decode op = .ok i ∧ exec i s = exec (.op9XY0 (decodeFields op).x (decodeFields op).y 0) s)

/-! ### One cycle and its faults (spec/40_cycle.md, spec/60_exceptions.md) -/

/-- A cycle fetches big-endian at pc when pc is at most 4094, decodes, runs the instruction, and then decrements both
timers, floored at 0, unless the instruction waits. Any fault ends it. That a fetch above 4094 faults is the spec's own
decision D7 (log entry 8). -/
def Obligations.CycleRunsDecodedInstruction : Prop :=
  ∀ s : State,
    (4094 < s.programCounter.toNat → step s = .fault (.fetchOutOfRange s.programCounter)) ∧
    (s.programCounter.toNat ≤ 4094 →
      ∀ op : Word,
        op.toNat = (s.memory.read s.programCounter.toNat).toNat * 256 +
          (s.memory.read (s.programCounter.toNat + 1)).toNat →
        (∀ e, decode op = .error e → step s = .fault (.unknownOpcode op)) ∧
        (∀ i, decode op = .ok i →
          (∀ t, exec i s = .next t → t.report = .executed →
            step s = .next { t with delayTimer := t.delayTimer - 1, soundTimer := t.soundTimer - 1 }) ∧
          (∀ t, exec i s = .next t → t.report = .waiting → step s = .next t) ∧
          (∀ f, exec i s = .fault f → step s = .fault f)))

/-- R69, R70, R71: groups 8, E and F select by their sub-code, N or NN, and every other sub-code raises UnknownOpcode
with the raw opcode. -/
def Obligations.SubCodesSelectOrRaise : Prop :=
  ∀ s : State, s.programCounter.toNat ≤ 4094 → ∀ f : Fields, f = decodeFields s.opcode →
    (f.instruction = 0x8 →
      (f.n = 0x0 → s.Runs (.op8XY0 f.x f.y)) ∧ (f.n = 0x1 → s.Runs (.op8XY1 f.x f.y)) ∧
      (f.n = 0x2 → s.Runs (.op8XY2 f.x f.y)) ∧ (f.n = 0x3 → s.Runs (.op8XY3 f.x f.y)) ∧
      (f.n = 0x4 → s.Runs (.op8XY4 f.x f.y)) ∧ (f.n = 0x5 → s.Runs (.op8XY5 f.x f.y)) ∧
      (f.n = 0x6 → s.Runs (.op8XY6 f.x f.y)) ∧ (f.n = 0x7 → s.Runs (.op8XY7 f.x f.y)) ∧
      (f.n = 0xE → s.Runs (.op8XYE f.x f.y)) ∧
      (f.n ∈ ([0x8, 0x9, 0xA, 0xB, 0xC, 0xD, 0xF] : List (BitVec 4)) →
        step s = .fault (.unknownOpcode s.opcode))) ∧
    (f.instruction = 0xE →
      (f.nn = 0x9E → s.Runs (.opEX9E f.x)) ∧ (f.nn = 0xA1 → s.Runs (.opEXA1 f.x)) ∧
      (f.nn ≠ 0x9E → f.nn ≠ 0xA1 → step s = .fault (.unknownOpcode s.opcode))) ∧
    (f.instruction = 0xF →
      (f.nn = 0x07 → s.Runs (.opFX07 f.x)) ∧ (f.nn = 0x0A → s.Runs (.opFX0A f.x)) ∧
      (f.nn = 0x15 → s.Runs (.opFX15 f.x)) ∧ (f.nn = 0x18 → s.Runs (.opFX18 f.x)) ∧
      (f.nn = 0x1E → s.Runs (.opFX1E f.x)) ∧ (f.nn = 0x29 → s.Runs (.opFX29 f.x)) ∧
      (f.nn = 0x33 → s.Runs (.opFX33 f.x)) ∧ (f.nn = 0x55 → s.Runs (.opFX55 f.x)) ∧
      (f.nn = 0x65 → s.Runs (.opFX65 f.x)) ∧
      (f.nn ∉ ([0x07, 0x0A, 0x15, 0x18, 0x1E, 0x29, 0x33, 0x55, 0x65] : List Byte) →
        step s = .fault (.unknownOpcode s.opcode)))

/-- UnknownOpcode, with the raw opcode, for exactly the opcodes of groups 0, 8, E and F that the dispatch does not list.
Group 0 and the cause code 1 are the spec's own decisions D11 and D14 (log entries 11 and 15). -/
def Obligations.UnknownOpcodeRaised : Prop :=
  ∀ s : State, s.programCounter.toNat ≤ 4094 →
    (step s = .fault (.unknownOpcode s.opcode) ↔
      ((decodeFields s.opcode).instruction = 0x0 ∧ s.opcode ≠ 0x00E0 ∧ s.opcode ≠ 0x00EE) ∨
      ((decodeFields s.opcode).instruction = 0x8 ∧
        (decodeFields s.opcode).n ∈ ([0x8, 0x9, 0xA, 0xB, 0xC, 0xD, 0xF] : List (BitVec 4))) ∨
      ((decodeFields s.opcode).instruction = 0xE ∧
        (decodeFields s.opcode).nn ≠ 0x9E ∧ (decodeFields s.opcode).nn ≠ 0xA1) ∨
      ((decodeFields s.opcode).instruction = 0xF ∧
        (decodeFields s.opcode).nn ∉
          ([0x07, 0x0A, 0x15, 0x18, 0x1E, 0x29, 0x33, 0x55, 0x65] : List Byte))) ∧
    (Fault.unknownOpcode s.opcode).code = 1 ∧ (Fault.unknownOpcode s.opcode).info = s.opcode.toNat

/-- R183: the message is `Unknown optcode 0x` and the opcode's four nibbles as uppercase hexadecimal digits. -/
def Obligations.UnknownOpcodeMessage : Prop :=
  (∀ op : Word, ∃ c3 c2 c1 c0 : Char,
    (Fault.unknownOpcode op).message = some ("Unknown optcode 0x" ++ String.ofList [c3, c2, c1, c0]) ∧
    "0123456789ABCDEF".toList[(decodeFields op).instruction.toNat]? = some c3 ∧
    "0123456789ABCDEF".toList[(decodeFields op).x.toNat]? = some c2 ∧
    "0123456789ABCDEF".toList[(decodeFields op).y.toNat]? = some c1 ∧
    "0123456789ABCDEF".toList[(decodeFields op).n.toNat]? = some c0) ∧
  (Fault.unknownOpcode 0x8008).message = some "Unknown optcode 0x8008" ∧
  (Fault.unknownOpcode 0xE0FF).message = some "Unknown optcode 0xE0FF" ∧
  (Fault.unknownOpcode 0x0123).message = some "Unknown optcode 0x0123"

/-- The faults of a cycle, each with the one condition that raises it, in the order of the checks, and each with its
cause code and what it records. A cycle faults in no other case. All but UnknownOpcode, and the codes, are the spec's
own decisions D4 to D7 and D14 (log entries 7, 8, 9, 15). -/
def Obligations.CycleFaultsExactly : Prop :=
  ∀ (s : State) (f : Fault),
    step s = .fault f ↔
      (4094 < s.programCounter.toNat ∧ f = .fetchOutOfRange s.programCounter ∧
        f.code = 2 ∧ f.info = s.programCounter.toNat) ∨
      (s.programCounter.toNat ≤ 4094 ∧ (∀ i, decode s.opcode ≠ .ok i) ∧ f = .unknownOpcode s.opcode ∧
        f.code = 1 ∧ f.info = s.opcode.toNat) ∨
      (∃ nnn, s.Runs (.op2NNN nnn) ∧ s.stackLimit = some s.stack.length ∧ f = .stackOverflow s.programCounter ∧
        f.code = 4 ∧ f.info = s.programCounter.toNat) ∨
      (s.Runs .op00EE ∧ s.stack = [] ∧ f = .stackUnderflow s.programCounter ∧
        f.code = 5 ∧ f.info = s.programCounter.toNat) ∨
      (∃ i, s.Runs i ∧ 0 < accessBytes i ∧ 4095 < s.addressRegister.toNat + (accessBytes i - 1) ∧
        f = .memoryOutOfRange (max s.addressRegister.toNat 4096) ∧
        f.code = 3 ∧ f.info = max s.addressRegister.toNat 4096)

/-- A cycle always has one of the outcomes of R85: no cycle is refused, and a next state reports Executed or Waiting. -/
def Obligations.CycleOutcomesAreTotal : Prop :=
  ∀ s : State,
    (∃ f, step s = .fault f) ∨ (∃ t, step s = .next t ∧ (t.report = .executed ∨ t.report = .waiting))

/-- A waiting cycle changes nothing of the CPU state, and only FX0A waits (R85). -/
def Obligations.WaitingCycleChangesNothing : Prop :=
  ∀ s t : State, step s = .next t → t.report = .waiting →
    SameCpuState s t ∧ SameConfig s t ∧ ∃ x, s.Runs (.opFX0A x)

/-- At the end of every executed cycle both timers are one lower, floored at 0 (R170); the tick comes after the
instruction (R88), so it also decrements the timer the same cycle's FX15 or FX18 set to V[X]·S (R172, R173); a waiting
cycle does not tick, and a cycle that faults leaves no next state. That V[X]·S is stored unmasked is the spec's own
decision D3 (log entry 3), for a width of the timers that is legal, which CycleKeepsInvariant keeps. -/
def Obligations.TimersTickAfterExecutedCycle : Prop :=
  ∀ (s t : State) (i : Instr), s.Runs i → step s = .next t →
    (t.report = .executed →
      ((∀ x, i ≠ .opFX15 x) → t.delayTimer = s.delayTimer - 1) ∧
      ((∀ x, i ≠ .opFX18 x) → t.soundTimer = s.soundTimer - 1) ∧
      (timerBitsWellFormed s.timerScaler s.timerBits = true →
        (∀ x, i = .opFX15 x → t.delayTimer = (s.V x).toNat * s.timerScaler - 1) ∧
        (∀ x, i = .opFX18 x → t.soundTimer = (s.V x).toNat * s.timerScaler - 1))) ∧
    (t.report = .waiting → t.delayTimer = s.delayTimer ∧ t.soundTimer = s.soundTimer)

/-! ### Invariants -/

/-- Every cycle keeps the invariant: canonical memory, a legal scaler, a legal width of the timers, timers within 0 to
255·S, a stack within its limit. The width's legality is decision D3 (log entry 3). -/
def Obligations.CycleKeepsInvariant : Prop := ∀ s t : State, s.Inv → step s = .next t → t.Inv

/-- The invariant holds after reset, whatever legal configuration the core has. -/
def Obligations.ResetMeetsInvariant : Prop :=
  State.reset.Inv ∧ ∀ c : Config, c.wellFormed = true → (State.resetWith c).Inv

/-- DT and ST are values of TIMER_BITS bits: every cycle keeps them so, whatever the configuration; and in a core that
meets the invariant they are, and are 8-bit values when S is 1 (R34, with the spec's own decision D3, log entry 3). -/
def Obligations.TimersKeepTheirWidth : Prop :=
  (∀ s t : State, s.TimersFit → step s = .next t → t.TimersFit) ∧
  (∀ s : State, s.Inv → s.TimersFit ∧ (s.timerScaler = 1 → s.timerBits = 8 ∧ s.delayTimer < 256 ∧ s.soundTimer < 256))

/-- pc never passes the largest target 0x10FE and a pushed address is at most 4094, so no write of pc wraps: the sum
00EE, BNNN, an advance or a skip computes is below 65536 (R30). -/
def Obligations.PcNeverWraps : Prop :=
  (∀ s t : State, s.PcBounded → step s = .next t → t.PcBounded) ∧
  (∀ s : State, s.PcBounded → s.programCounter.toNat ≤ 4094 →
    s.programCounter.toNat + 4 < 65536 ∧ (∀ e ∈ s.stack, e.toNat + 2 < 65536) ∧
    ∀ nnn : Addr12, nnn.toNat + (s.V 0).toNat < 65536)

/-- pc and the empty stack are in bounds after reset. -/
def Obligations.ResetPcBounded : Prop := State.reset.PcBounded

/-- R200: every field is zeroed, the stack is empty, and the scaler is the configured one, not 0, for every
configuration. -/
def Obligations.ResetZeroesState : Prop :=
  (∀ c : Config,
    (∀ a, a < 4096 → (State.resetWith c).memory.read a = 0) ∧
    (∀ r : Reg, (State.resetWith c).V r = 0) ∧
    (State.resetWith c).addressRegister = 0 ∧ (State.resetWith c).programCounter = 0 ∧
    (State.resetWith c).stack = [] ∧ (State.resetWith c).delayTimer = 0 ∧ (State.resetWith c).soundTimer = 0 ∧
    (State.resetWith c).timerScaler = c.timerScaler) ∧
  State.reset = State.resetWith Config.core ∧ 1 ≤ State.reset.timerScaler

/-! ### Rules of the whole machine -/

/-- The parameters are fixed for the life of the core: no cycle writes the scaler, the width of the timers, the stack limit or
the key index. -/
def Obligations.ParametersNeverChange : Prop := ∀ s t : State, step s = .next t → SameConfig s t

/-- No cycle changes I but one that runs ANNN, FX1E or FX29. -/
def Obligations.IndexWrittenOnlyByItsInstructions : Prop :=
  ∀ (s t : State) (i : Instr), s.Runs i → step s = .next t →
    (∀ nnn, i ≠ .opANNN nnn) → (∀ x, i ≠ .opFX1E x) → (∀ x, i ≠ .opFX29 x) →
    t.addressRegister = s.addressRegister

/-- Only 2NNN pushes, by one entry, and only 00EE pops, one entry; no other cycle changes the stack. -/
def Obligations.StackChangesOnlyByCallAndReturn : Prop :=
  ∀ (s t : State) (i : Instr), s.Runs i → step s = .next t →
    (∃ nnn, i = .op2NNN nnn ∧ t.stack = s.programCounter :: s.stack) ∨
    (i = .op00EE ∧ ∃ a, s.stack = a :: t.stack) ∨
    ((∀ nnn, i ≠ .op2NNN nnn) ∧ i ≠ .op00EE ∧ t.stack = s.stack)

/-- No cycle changes memory but one that runs FX33 or FX55, and those only the bytes they store, at I and up. -/
def Obligations.MemoryChangesOnlyWhereStored : Prop :=
  ∀ (s t : State) (i : Instr), s.memory.wf = true → s.Runs i → step s = .next t → ∀ a : Nat,
    (((∃ x, i = .opFX33 x) ∨ (∃ x, i = .opFX55 x)) →
      (a < s.addressRegister.toNat ∨ s.addressRegister.toNat + accessBytes i ≤ a) →
      t.memory.read a = s.memory.read a) ∧
    (((∀ x, i ≠ .opFX33 x) ∧ (∀ x, i ≠ .opFX55 x)) → t.memory.read a = s.memory.read a)

/-- VF changes only in a cycle that runs one of the six flag instructions, or an instruction whose destination is VF:
X is F in 6XNN, 7XNN, 8XY0 to 8XY3, CXNN, FX07, FX0A or FX65. -/
def Obligations.FlagRegisterWrittenOnlyAsListed : Prop :=
  ∀ (s t : State) (i : Instr), s.Runs i → step s = .next t → t.V 0xF ≠ s.V 0xF →
    (∃ x y, i = .op8XY4 x y ∨ i = .op8XY5 x y ∨ i = .op8XY6 x y ∨ i = .op8XY7 x y ∨ i = .op8XYE x y) ∨
    (∃ x y n, i = .opDXYN x y n) ∨
    (∃ nn, i = .op6XNN 0xF nn ∨ i = .op7XNN 0xF nn ∨ i = .opCXNN 0xF nn) ∨
    (∃ y, i = .op8XY0 0xF y ∨ i = .op8XY1 0xF y ∨ i = .op8XY2 0xF y ∨ i = .op8XY3 0xF y) ∨
    i = .opFX07 0xF ∨ i = .opFX0A 0xF ∨ i = .opFX65 0xF

/-- A cycle only adds calls to the trace, the model's own field of State (log entry 18); `clear` is called only by 00E0 (R190), `flip` only by DXYN (R191), and
`pressed`, `any` and `Rand` only by EX9E or EXA1 (R192), by FX0A (R193) and by CXNN (R194), each at most once a
cycle. -/
def Obligations.CallsMadeOnlyByTheirInstructions : Prop :=
  ∀ (s t : State) (i : Instr), s.Runs i → step s = .next t →
    ∃ made, t.calls = s.calls ++ made ∧
      (∀ c ∈ made, match c with
        | .clear => i = .op00E0 ∧ made = [c]
        | .flip _ _ _ => ∃ x y n, i = .opDXYN x y n
        | .pressed _ _ => (∃ x, i = .opEX9E x ∨ i = .opEXA1 x) ∧ made = [c]
        | .anyKey _ => (∃ x, i = .opFX0A x) ∧ made = [c]
        | .random _ => (∃ x nn, i = .opCXNN x nn) ∧ made = [c])

/-- No instruction reads ST: two cores that differ only in ST stop alike, or go on to states that differ only in ST. -/
def Obligations.SoundTimerIsNeverRead : Prop :=
  ∀ (s : State) (v : Nat),
    (∀ t, step s = .next t → ∃ v', step { s with soundTimer := v } = .next { t with soundTimer := v' }) ∧
    (∀ f, step s = .fault f → step { s with soundTimer := v } = .fault f)

/-- A jump to itself (R92, R102) runs for ever: every number of cycles completes, and only the timers move. -/
def Obligations.JumpToSelfOnlyTicks : Prop :=
  ∀ (s : State) (nnn : Addr12) (k : Nat), s.Runs (.op1NNN nnn) → nnn.toNat = s.programCounter.toNat →
    ∃ t, Sys2Proof.core.run k s = .next t ∧
      t.delayTimer = s.delayTimer - k ∧ t.soundTimer = s.soundTimer - k ∧ t.programCounter = s.programCounter ∧
      t.memory = s.memory ∧ t.registers = s.registers ∧ t.addressRegister = s.addressRegister ∧ t.stack = s.stack ∧
      SameConfig s t ∧ SameCollaborators s t

/-- FX0A waits without an effect for as long as the keyboard answers that no key is pressed, and the cycle in which it
reports a key completes. -/
def Obligations.KeyWaitIsIdempotent : Prop :=
  ∀ (s : State) (x : Reg) (k : Nat) (rest : List (Option Key)), s.Runs (.opFX0A x) →
    s.anyKeyInputs = List.replicate k none ++ rest →
    ∃ t, Sys2Proof.core.run k s = .next t ∧ SameCpuState s t ∧ t.anyKeyInputs = rest ∧
      ∀ key later, rest = some key :: later →
        ∃ u, step t = .next u ∧ (u.V x).toNat = key.toNat ∧
          u.programCounter.toNat = (s.programCounter.toNat + 2) % 65536 ∧ u.delayTimer = s.delayTimer - 1 ∧
          u.soundTimer = s.soundTimer - 1

/-- A byte stored by FX55 is fetched as stored by the next cycle (R56): V0 and V1 stored over the next opcode are it. -/
def Obligations.StoredCodeIsFetched : Prop :=
  ∀ (s t : State) (x : Reg), s.memory.wf = true → s.Runs (.opFX55 x) → 1 ≤ x.toNat →
    s.addressRegister.toNat = s.programCounter.toNat + 2 → step s = .next t →
    t.opcode.toNat = (s.V 0).toNat * 256 + (s.V 1).toNat ∧
    (t.programCounter.toNat = s.programCounter.toNat + 2)

/-- A call and the return it makes possible come back to the instruction after the call, with the stack as it was. -/
def Obligations.ReturnComesBackAfterCall : Prop :=
  ∀ (s t : State) (nnn : Addr12), exec (.op2NNN nnn) s = .next t →
    ∃ u, exec .op00EE t = .next u ∧ u.stack = s.stack ∧
      u.programCounter.toNat = (s.programCounter.toNat + 2) % 65536

/-- What the host's boot leaves (R203): reset state but for memory, which holds the program image at its base and the
font from address 0 where the image does not cover it, and pc, which is the entry address. -/
def Obligations.BootLoadsImages : Prop :=
  ∀ (c : Config) (font image : List Byte) (base : Nat) (entry : Word), c.wellFormed = true →
    font.length ≤ 4096 → base + image.length ≤ 4096 → entry.toNat ≤ 4094 →
    ∃ t, State.boot c font base image entry = some t ∧ t.Inv ∧ t.programCounter = entry ∧
      (∀ k, k < image.length → image[k]? = some (t.memory.read (base + k))) ∧
      (∀ k, k < font.length → k < base ∨ base + image.length ≤ k → font[k]? = some (t.memory.read k)) ∧
      (∀ r : Reg, t.V r = 0) ∧ t.addressRegister = 0 ∧ t.stack = [] ∧ t.delayTimer = 0 ∧ t.soundTimer = 0 ∧
      t.timerScaler = c.timerScaler ∧ t.timerBits = c.timerBits ∧ t.stackLimit = c.stackLimit ∧ t.skipKeyIndex = c.skipKeyIndex

/-- The host's boot gives no state when a parameter has no legal value (R10, ENTRY_PC among them) or an image does not
fit the memory. -/
def Obligations.BootRejectsIllegalArguments : Prop :=
  ∀ (c : Config) (font image : List Byte) (base : Nat) (entry : Word),
    (c.wellFormed = false ∨ 4096 < font.length ∨ 4096 < base + image.length ∨ 4094 < entry.toNat) →
    State.boot c font base image entry = none

/-! ### Control transfer (spec/41_control_flow.md) -/

/-- 00EE pops the top entry and goes two past it (R101), or raises StackUnderflow on an empty stack, the spec's own
decision D5 (log entry 9). -/
def Obligations.ReturnPopsStack : Prop :=
  (∀ op : Word, op = 0x00EE → decode op = .ok .op00EE) ∧
  ∀ s : State,
    (s.stack = [] → exec .op00EE s = .fault (.stackUnderflow s.programCounter)) ∧
    (∀ a rest, s.stack = a :: rest →
      ∃ t, exec .op00EE s = .next t ∧ t.stack = rest ∧ t.programCounter.toNat = (a.toNat + 2) % 65536 ∧
        t.report = .executed ∧ OnlyControlChanges s t)

/-- R102: 1NNN goes to NNN. -/
def Obligations.JumpSetsPc : Prop :=
  (∀ op : Word, (decodeFields op).instruction = 0x1 → decode op = .ok (.op1NNN (decodeFields op).nnn)) ∧
  ∀ (s : State) (nnn : Addr12),
    ∃ t, exec (.op1NNN nnn) s = .next t ∧ t.programCounter.toNat = nnn.toNat ∧ t.stack = s.stack ∧
      t.report = .executed ∧ OnlyControlChanges s t

/-- 2NNN pushes its own address and goes to NNN (R103), or raises StackOverflow when the stack is at its limit, the
spec's own decision D4 (log entry 9). -/
def Obligations.CallPushesOwnAddress : Prop :=
  (∀ op : Word, (decodeFields op).instruction = 0x2 → decode op = .ok (.op2NNN (decodeFields op).nnn)) ∧
  ∀ (s : State) (nnn : Addr12),
    (s.stackLimit = some s.stack.length → exec (.op2NNN nnn) s = .fault (.stackOverflow s.programCounter)) ∧
    (s.stackLimit ≠ some s.stack.length →
      ∃ t, exec (.op2NNN nnn) s = .next t ∧ t.stack = s.programCounter :: s.stack ∧
        t.programCounter.toNat = nnn.toNat ∧ t.report = .executed ∧ OnlyControlChanges s t)

/-- R104: BNNN goes to NNN plus V0, and always V0. -/
def Obligations.JumpAddsV0 : Prop :=
  (∀ op : Word, (decodeFields op).instruction = 0xB → decode op = .ok (.opBNNN (decodeFields op).nnn)) ∧
  ∀ (s : State) (nnn : Addr12),
    ∃ t, exec (.opBNNN nnn) s = .next t ∧
      t.programCounter.toNat = (nnn.toNat + (s.V 0).toNat) % 65536 ∧ t.programCounter.toNat ≤ 0x10FE ∧
      t.stack = s.stack ∧ t.report = .executed ∧ OnlyControlChanges s t

/-! ### Conditional skips (spec/42_skips.md) -/

/-- R111, R112: 3XNN and 4XNN compare VX with NN and go four on when their condition holds, two on otherwise, and change
nothing else. -/
def Obligations.SkipsCompareImmediate : Prop :=
  (∀ op : Word,
    ((decodeFields op).instruction = 0x3 → decode op = .ok (.op3XNN (decodeFields op).x (decodeFields op).nn)) ∧
    ((decodeFields op).instruction = 0x4 → decode op = .ok (.op4XNN (decodeFields op).x (decodeFields op).nn))) ∧
  ∀ (s : State) (x : Reg) (nn : Byte),
    (∃ t, exec (.op3XNN x nn) s = .next t ∧
      t.programCounter.toNat = (s.programCounter.toNat + if (s.V x).toNat = nn.toNat then 4 else 2) % 65536 ∧
      t.stack = s.stack ∧ t.report = .executed ∧ OnlyControlChanges s t) ∧
    (∃ t, exec (.op4XNN x nn) s = .next t ∧
      t.programCounter.toNat = (s.programCounter.toNat + if (s.V x).toNat = nn.toNat then 2 else 4) % 65536 ∧
      t.stack = s.stack ∧ t.report = .executed ∧ OnlyControlChanges s t)

/-- 5XY0 and 9XY0 compare VX with VY and go four on when their condition holds, two on otherwise, and change nothing
else (R113, R114); that every N is this instruction is the spec's own decision D12 (log entry 12). -/
def Obligations.SkipsCompareRegisters : Prop :=
  (∀ op : Word,
    ((decodeFields op).instruction = 0x5 →
      decode op = .ok (.op5XY0 (decodeFields op).x (decodeFields op).y (decodeFields op).n)) ∧
    ((decodeFields op).instruction = 0x9 →
      decode op = .ok (.op9XY0 (decodeFields op).x (decodeFields op).y (decodeFields op).n))) ∧
  ∀ (s : State) (x y : Reg) (n : BitVec 4),
    (∃ t, exec (.op5XY0 x y n) s = .next t ∧
      t.programCounter.toNat =
        (s.programCounter.toNat + if (s.V x).toNat = (s.V y).toNat then 4 else 2) % 65536 ∧
      t.stack = s.stack ∧ t.report = .executed ∧ OnlyControlChanges s t) ∧
    (∃ t, exec (.op9XY0 x y n) s = .next t ∧
      t.programCounter.toNat =
        (s.programCounter.toNat + if (s.V x).toNat = (s.V y).toNat then 2 else 4) % 65536 ∧
      t.stack = s.stack ∧ t.report = .executed ∧ OnlyControlChanges s t)

/-! ### Arithmetic and logic (spec/43_alu.md) -/

/-- R121, R122: 6XNN loads NN; 7XNN adds it modulo 256 with no flag. -/
def Obligations.ImmediateLoadAndAdd : Prop :=
  (∀ op : Word,
    ((decodeFields op).instruction = 0x6 → decode op = .ok (.op6XNN (decodeFields op).x (decodeFields op).nn)) ∧
    ((decodeFields op).instruction = 0x7 → decode op = .ok (.op7XNN (decodeFields op).x (decodeFields op).nn))) ∧
  ∀ (s : State) (x : Reg) (nn : Byte),
    (∃ t, exec (.op6XNN x nn) s = .next t ∧ t.V x = nn ∧ SameRegistersBut (· = x) s t ∧
      t.programCounter = s.programCounter + 2 ∧ t.report = .executed ∧ OnlyRegistersChange s t) ∧
    (∃ t, exec (.op7XNN x nn) s = .next t ∧ (t.V x).toNat = ((s.V x).toNat + nn.toNat) % 256 ∧
      SameRegistersBut (· = x) s t ∧ t.programCounter = s.programCounter + 2 ∧ t.report = .executed ∧
      OnlyRegistersChange s t)

/-- R123 to R126: copy, OR, AND and XOR write VX alone, bit by bit; VF is not reset. -/
def Obligations.CopyAndLogicWriteVX : Prop :=
  (∀ op : Word, (decodeFields op).instruction = 0x8 →
    ((decodeFields op).n = 0x0 → decode op = .ok (.op8XY0 (decodeFields op).x (decodeFields op).y)) ∧
    ((decodeFields op).n = 0x1 → decode op = .ok (.op8XY1 (decodeFields op).x (decodeFields op).y)) ∧
    ((decodeFields op).n = 0x2 → decode op = .ok (.op8XY2 (decodeFields op).x (decodeFields op).y)) ∧
    ((decodeFields op).n = 0x3 → decode op = .ok (.op8XY3 (decodeFields op).x (decodeFields op).y))) ∧
  ∀ (s : State) (x y : Reg),
    (∃ t, exec (.op8XY0 x y) s = .next t ∧ t.V x = s.V y ∧ SameRegistersBut (· = x) s t ∧
      t.programCounter = s.programCounter + 2 ∧ t.report = .executed ∧ OnlyRegistersChange s t) ∧
    (∃ t, exec (.op8XY1 x y) s = .next t ∧
      (∀ b, b < 8 → (t.V x).getLsbD b = ((s.V x).getLsbD b || (s.V y).getLsbD b)) ∧ SameRegistersBut (· = x) s t ∧
      t.programCounter = s.programCounter + 2 ∧ t.report = .executed ∧ OnlyRegistersChange s t) ∧
    (∃ t, exec (.op8XY2 x y) s = .next t ∧
      (∀ b, b < 8 → (t.V x).getLsbD b = ((s.V x).getLsbD b && (s.V y).getLsbD b)) ∧ SameRegistersBut (· = x) s t ∧
      t.programCounter = s.programCounter + 2 ∧ t.report = .executed ∧ OnlyRegistersChange s t) ∧
    (∃ t, exec (.op8XY3 x y) s = .next t ∧
      (∀ b, b < 8 → (t.V x).getLsbD b = ((s.V x).getLsbD b != (s.V y).getLsbD b)) ∧ SameRegistersBut (· = x) s t ∧
      t.programCounter = s.programCounter + 2 ∧ t.report = .executed ∧ OnlyRegistersChange s t)

/-- R127: 8XY4 writes the sum modulo 256 to VX and then the carry to VF, which is the last word when X is F. -/
def Obligations.AddWritesCarry : Prop :=
  (∀ op : Word, (decodeFields op).instruction = 0x8 → (decodeFields op).n = 0x4 →
    decode op = .ok (.op8XY4 (decodeFields op).x (decodeFields op).y)) ∧
  ∀ (s : State) (x y : Reg),
    ∃ t, exec (.op8XY4 x y) s = .next t ∧
      (x ≠ 0xF → (t.V x).toNat = ((s.V x).toNat + (s.V y).toNat) % 256) ∧
      (t.V 0xF).toNat = (if (s.V x).toNat + (s.V y).toNat > 255 then 1 else 0) ∧
      SameRegistersBut (fun r => r = x ∨ r = 0xF) s t ∧
      t.programCounter = s.programCounter + 2 ∧ t.report = .executed ∧ OnlyRegistersChange s t

/-- R128, R131: 8XY5 and 8XY7 write the difference modulo 256 to VX and then, to VF, 1 when there is no borrow. -/
def Obligations.SubtractsWriteNotBorrow : Prop :=
  (∀ op : Word, (decodeFields op).instruction = 0x8 →
    ((decodeFields op).n = 0x5 → decode op = .ok (.op8XY5 (decodeFields op).x (decodeFields op).y)) ∧
    ((decodeFields op).n = 0x7 → decode op = .ok (.op8XY7 (decodeFields op).x (decodeFields op).y))) ∧
  ∀ (s : State) (x y : Reg),
    (∃ t, exec (.op8XY5 x y) s = .next t ∧
      (x ≠ 0xF → ((t.V x).toNat : Int) = (((s.V x).toNat : Int) - (s.V y).toNat) % 256) ∧
      (t.V 0xF).toNat = (if (s.V x).toNat < (s.V y).toNat then 0 else 1) ∧
      SameRegistersBut (fun r => r = x ∨ r = 0xF) s t ∧
      t.programCounter = s.programCounter + 2 ∧ t.report = .executed ∧ OnlyRegistersChange s t) ∧
    (∃ t, exec (.op8XY7 x y) s = .next t ∧
      (x ≠ 0xF → ((t.V x).toNat : Int) = (((s.V y).toNat : Int) - (s.V x).toNat) % 256) ∧
      (t.V 0xF).toNat = (if (s.V y).toNat < (s.V x).toNat then 0 else 1) ∧
      SameRegistersBut (fun r => r = x ∨ r = 0xF) s t ∧
      t.programCounter = s.programCounter + 2 ∧ t.report = .executed ∧ OnlyRegistersChange s t)

/-- The shifts write the bit shifted out to VF and then shift VX (R130, R132), so that with X = F the final VF is the
shifted flag: 0 for 8FY6, and 2 or 0 for 8FYE, which is the spec's resolution of conflict C2 (log entry 16). Y is not
read. -/
def Obligations.ShiftsWriteFlagFirst : Prop :=
  (∀ op : Word, (decodeFields op).instruction = 0x8 →
    ((decodeFields op).n = 0x6 → decode op = .ok (.op8XY6 (decodeFields op).x (decodeFields op).y)) ∧
    ((decodeFields op).n = 0xE → decode op = .ok (.op8XYE (decodeFields op).x (decodeFields op).y))) ∧
  ∀ (s : State) (x y : Reg),
    (∃ t, exec (.op8XY6 x y) s = .next t ∧
      (x ≠ 0xF → (t.V x).toNat = (s.V x).toNat / 2 ∧ (t.V 0xF).toNat = (s.V x).toNat % 2) ∧
      (x = 0xF → (t.V 0xF).toNat = 0) ∧
      SameRegistersBut (fun r => r = x ∨ r = 0xF) s t ∧
      t.programCounter = s.programCounter + 2 ∧ t.report = .executed ∧ OnlyRegistersChange s t) ∧
    (∃ t, exec (.op8XYE x y) s = .next t ∧
      (x ≠ 0xF → (t.V x).toNat = (s.V x).toNat * 2 % 256 ∧ (t.V 0xF).toNat = (s.V x).toNat / 128) ∧
      (x = 0xF → (t.V 0xF).toNat = if 128 ≤ (s.V 0xF).toNat then 2 else 0) ∧
      SameRegistersBut (fun r => r = x ∨ r = 0xF) s t ∧
      t.programCounter = s.programCounter + 2 ∧ t.report = .executed ∧ OnlyRegistersChange s t)

/-- CXNN calls the random source exactly once, whatever NN is, and writes its answer AND NN to VX (R133). Where the
answer comes from, an input lined up or a free value, is the model's choice (log entry 5, decision D18). -/
def Obligations.RandomByteMasked : Prop :=
  (∀ op : Word, (decodeFields op).instruction = 0xC →
    decode op = .ok (.opCXNN (decodeFields op).x (decodeFields op).nn)) ∧
  ∀ (s : State) (x : Reg) (nn : Byte),
    ∃ t r, exec (.opCXNN x nn) s = .next t ∧ AnswerFrom s.randomInputs (Config.freeRandom s.draws) r ∧
      t.calls = s.calls ++ [.random r] ∧
      (∀ b, b < 8 → (t.V x).getLsbD b = (r.getLsbD b && nn.getLsbD b)) ∧ SameRegistersBut (· = x) s t ∧
      t.programCounter = s.programCounter + 2 ∧ t.report = .executed ∧ OnlyCallsChange s t ∧
      OnlyRandomAnswerTaken s t

/-! ### Address register and memory (spec/44_index_memory.md) -/

/-- R141, R143: ANNN loads I, and FX29 sets it to five times the whole VX. -/
def Obligations.IndexLoads : Prop :=
  (∀ op : Word,
    ((decodeFields op).instruction = 0xA → decode op = .ok (.opANNN (decodeFields op).nnn)) ∧
    ((decodeFields op).instruction = 0xF → (decodeFields op).nn = 0x29 →
      decode op = .ok (.opFX29 (decodeFields op).x))) ∧
  ∀ (s : State) (x : Reg) (nnn : Addr12),
    (∃ t, exec (.opANNN nnn) s = .next t ∧ t.addressRegister.toNat = nnn.toNat ∧
      t.programCounter = s.programCounter + 2 ∧ t.report = .executed ∧ OnlyIndexChanges s t) ∧
    (∃ t, exec (.opFX29 x) s = .next t ∧ t.addressRegister.toNat = (s.V x).toNat * 5 ∧
      t.programCounter = s.programCounter + 2 ∧ t.report = .executed ∧ OnlyIndexChanges s t)

/-- FX1E adds VX to I and writes no flag (R142); that the sum is modulo 65536 is the spec's own decision D9 (log
entry 13). -/
def Obligations.IndexAddsRegister : Prop :=
  (∀ op : Word, (decodeFields op).instruction = 0xF → (decodeFields op).nn = 0x1E →
    decode op = .ok (.opFX1E (decodeFields op).x)) ∧
  ∀ (s : State) (x : Reg),
    ∃ t, exec (.opFX1E x) s = .next t ∧
      t.addressRegister.toNat = (s.addressRegister.toNat + (s.V x).toNat) % 65536 ∧
      t.programCounter = s.programCounter + 2 ∧ t.report = .executed ∧ OnlyIndexChanges s t

/-- FX33 stores the hundreds, tens and units of VX at I, I+1 and I+2 (R144), or, when I is above 4093, raises
MemoryOutOfRange, the spec's own decision D6 (log entry 7). -/
def Obligations.DecimalDigitsStored : Prop :=
  (∀ op : Word, (decodeFields op).instruction = 0xF → (decodeFields op).nn = 0x33 →
    decode op = .ok (.opFX33 (decodeFields op).x)) ∧
  ∀ (s : State) (x : Reg), s.memory.wf = true →
    (4093 < s.addressRegister.toNat →
      exec (.opFX33 x) s = .fault (.memoryOutOfRange (max s.addressRegister.toNat 4096))) ∧
    (s.addressRegister.toNat ≤ 4093 →
      ∃ t, exec (.opFX33 x) s = .next t ∧
        (t.memory.read s.addressRegister.toNat).toNat = (s.V x).toNat / 100 ∧
        (t.memory.read (s.addressRegister.toNat + 1)).toNat = (s.V x).toNat / 10 % 10 ∧
        (t.memory.read (s.addressRegister.toNat + 2)).toNat = (s.V x).toNat % 10 ∧
        (∀ a, a < s.addressRegister.toNat ∨ s.addressRegister.toNat + 3 ≤ a →
          t.memory.read a = s.memory.read a) ∧
        t.programCounter = s.programCounter + 2 ∧ t.report = .executed ∧ OnlyMemoryChanges s t)

/-- FX55 stores V0 to VX at I to I+X and leaves I as it is (R145), or, when I+X is above 4095, raises MemoryOutOfRange,
the spec's own decision D6 (log entry 7). -/
def Obligations.RegisterBlockStored : Prop :=
  (∀ op : Word, (decodeFields op).instruction = 0xF → (decodeFields op).nn = 0x55 →
    decode op = .ok (.opFX55 (decodeFields op).x)) ∧
  ∀ (s : State) (x : Reg), s.memory.wf = true →
    (4095 < s.addressRegister.toNat + x.toNat →
      exec (.opFX55 x) s = .fault (.memoryOutOfRange (max s.addressRegister.toNat 4096))) ∧
    (s.addressRegister.toNat + x.toNat ≤ 4095 →
      ∃ t, exec (.opFX55 x) s = .next t ∧
        (∀ k : Reg, k.toNat ≤ x.toNat → t.memory.read (s.addressRegister.toNat + k.toNat) = s.V k) ∧
        (∀ a, a < s.addressRegister.toNat ∨ s.addressRegister.toNat + x.toNat < a →
          t.memory.read a = s.memory.read a) ∧
        t.programCounter = s.programCounter + 2 ∧ t.report = .executed ∧ OnlyMemoryChanges s t)

/-- FX65 loads V0 to VX from I to I+X and leaves I and the other registers as they are (R146), or, when I+X is above
4095, raises MemoryOutOfRange, the spec's own decision D6 (log entry 7). -/
def Obligations.RegisterBlockLoaded : Prop :=
  (∀ op : Word, (decodeFields op).instruction = 0xF → (decodeFields op).nn = 0x65 →
    decode op = .ok (.opFX65 (decodeFields op).x)) ∧
  ∀ (s : State) (x : Reg),
    (4095 < s.addressRegister.toNat + x.toNat →
      exec (.opFX65 x) s = .fault (.memoryOutOfRange (max s.addressRegister.toNat 4096))) ∧
    (s.addressRegister.toNat + x.toNat ≤ 4095 →
      ∃ t, exec (.opFX65 x) s = .next t ∧
        (∀ k : Reg, k.toNat ≤ x.toNat → t.V k = s.memory.read (s.addressRegister.toNat + k.toNat)) ∧
        SameRegistersBut (fun k => k.toNat ≤ x.toNat) s t ∧
        t.programCounter = s.programCounter + 2 ∧ t.report = .executed ∧ OnlyRegistersChange s t)

/-! ### Display (spec/45_display.md) -/

/-- R151: 00E0 makes one call `clear()` and changes no register and no memory. -/
def Obligations.ClearDisplayCallsOnce : Prop :=
  (∀ op : Word, op = 0x00E0 → decode op = .ok .op00E0) ∧
  ∀ s : State,
    ∃ t, exec .op00E0 s = .next t ∧ t.calls = s.calls ++ [.clear] ∧ SameRegisters s t ∧
      t.programCounter = s.programCounter + 2 ∧ t.report = .executed ∧ OnlyCallsChange s t ∧
      t.draws = s.draws ∧ t.randomInputs = s.randomInputs ∧ t.flipInputs = s.flipInputs ∧
      t.pressedInputs = s.pressedInputs ∧ t.anyKeyInputs = s.anyKeyInputs

/-- DXYN (R152, R153, R154) flips, in row-major order with the top row first and the leftmost column first, the pixel at
`(x0 + col, y0 + r)` for every set bit, at unreduced coordinates; VF, written last, is 1 exactly when an answer was off.
Out of range it raises MemoryOutOfRange before any call, the spec's own decision D6 (log entry 7); with N = 0 it reads
nothing and calls nothing. Where an answer comes from is the model's choice (log entry 5, decision D17). -/
def Obligations.SpriteFlipsInOrder : Prop :=
  (∀ op : Word, (decodeFields op).instruction = 0xD →
    decode op = .ok (.opDXYN (decodeFields op).x (decodeFields op).y (decodeFields op).n)) ∧
  ∀ (s : State) (x y : Reg) (n : BitVec 4),
    (0 < n.toNat → 4095 < s.addressRegister.toNat + (n.toNat - 1) →
      exec (.opDXYN x y n) s = .fault (.memoryOutOfRange (max s.addressRegister.toNat 4096))) ∧
    (n.toNat = 0 ∨ s.addressRegister.toNat + (n.toNat - 1) ≤ 4095 →
      ∀ pixels : List (Nat × Nat),
        pixels = ((List.range n.toNat).flatMap fun r =>
          ((List.range 8).filter fun col =>
            (s.memory.read (s.addressRegister.toNat + r)).getLsbD (7 - col)).map fun col =>
              ((s.V x).toNat + col, (s.V y).toNat + r)) →
        ∃ (t : State) (answers : List Bool), exec (.opDXYN x y n) s = .next t ∧
          answers.length = pixels.length ∧
          (∀ j, j < pixels.length →
            answers[j]? = some ((s.flipInputs[j]?).getD (Config.freeFlip (s.draws + j)))) ∧
          t.calls = s.calls ++ List.zipWith (fun p on => Call.flip p.1 p.2 on) pixels answers ∧
          (∀ p ∈ pixels, p.1 ≤ 262 ∧ p.2 ≤ 269) ∧
          (t.V 0xF).toNat = (if false ∈ answers then 1 else 0) ∧
          SameRegistersBut (· = 0xF) s t ∧ t.programCounter = s.programCounter + 2 ∧ t.report = .executed ∧
          OnlyCallsChange s t ∧ OnlyFlipAnswersTaken pixels.length s t)

/-! ### Keyboard (spec/46_keyboard.md) -/

/-- EX9E skips when the key is pressed and EXA1 when it is not (R161, R162). Which key, X or V[X], and that a V[X] above
15 counts as not pressed with no call made, is the spec's own decision D13 (R160, log entry 6); where the answer comes
from is the model's choice (log entry 5, decision D19). -/
def Obligations.KeySkipsTestTheKey : Prop :=
  (∀ op : Word, (decodeFields op).instruction = 0xE →
    ((decodeFields op).nn = 0x9E → decode op = .ok (.opEX9E (decodeFields op).x)) ∧
    ((decodeFields op).nn = 0xA1 → decode op = .ok (.opEXA1 (decodeFields op).x))) ∧
  ∀ (s : State) (x : Reg),
    (∀ k : Key, (s.skipKeyIndex = .nibbleX ∧ k = x) ∨ (s.skipKeyIndex = .registerVX ∧ k.toNat = (s.V x).toNat) →
      ∃ (t u : State) (down : Bool), AnswerFrom s.pressedInputs (Config.freePressed s.draws) down ∧
        (exec (.opEX9E x) s = .next t ∧ t.calls = s.calls ++ [.pressed k down] ∧
          t.programCounter.toNat = (s.programCounter.toNat + if down then 4 else 2) % 65536 ∧
          t.report = .executed ∧ SameRegisters s t ∧ OnlyCallsChange s t ∧ OnlyPressedAnswerTaken s t) ∧
        (exec (.opEXA1 x) s = .next u ∧ u.calls = s.calls ++ [.pressed k down] ∧
          u.programCounter.toNat = (s.programCounter.toNat + if down then 2 else 4) % 65536 ∧
          u.report = .executed ∧ SameRegisters s u ∧ OnlyCallsChange s u ∧ OnlyPressedAnswerTaken s u)) ∧
    (s.skipKeyIndex = .registerVX → 15 < (s.V x).toNat →
      ∃ t u : State,
        (exec (.opEX9E x) s = .next t ∧ t.programCounter.toNat = (s.programCounter.toNat + 2) % 65536 ∧
          t.report = .executed ∧ SameRegisters s t ∧ OnlyCallsChange s t ∧ SameCollaborators s t) ∧
        (exec (.opEXA1 x) s = .next u ∧ u.programCounter.toNat = (s.programCounter.toNat + 4) % 65536 ∧
          u.report = .executed ∧ SameRegisters s u ∧ OnlyCallsChange s u ∧ SameCollaborators s u))

/-- FX0A asks once for any key (R163); with none pressed the cycle waits and the CPU state is as it was, and with one its
index goes to VX and pc two on. Where the answer comes from is the model's choice (log entry 5, decision D19). -/
def Obligations.WaitForKeyLoadsIndex : Prop :=
  (∀ op : Word, (decodeFields op).instruction = 0xF → (decodeFields op).nn = 0x0A →
    decode op = .ok (.opFX0A (decodeFields op).x)) ∧
  ∀ (s : State) (x : Reg),
    (∀ (k : Key) (later : List (Option Key)), s.anyKeyInputs = some k :: later →
      ∃ t, exec (.opFX0A x) s = .next t ∧ t.report = .executed ∧ (t.V x).toNat = k.toNat) ∧
    ∃ (t : State) (answer : Option Key), exec (.opFX0A x) s = .next t ∧
      AnswerFrom s.anyKeyInputs (Config.freeAnyKey s.draws) answer ∧ t.calls = s.calls ++ [.anyKey answer] ∧
      OnlyAnyKeyAnswerTaken s t ∧ OnlyCallsChange s t ∧
      (answer = none → t.report = .waiting ∧ SameCpuState s t) ∧
      (∀ k, answer = some k → t.report = .executed ∧ (t.V x).toNat = k.toNat ∧ SameRegistersBut (· = x) s t ∧
        t.programCounter = s.programCounter + 2)

/-! ### Timers (spec/47_timers.md) -/

/-- R171: FX07 reads the delay timer in timer units, rounded up: the least number of units whose S ticks cover DT. It
reads 0 only when DT is 0, and with S = 1 it is DT. DT is read before the same cycle's tick. The scaler and the timer
are in the ranges the spec gives them, which CycleKeepsInvariant keeps. -/
def Obligations.DelayTimerReadRoundsUp : Prop :=
  (∀ op : Word, (decodeFields op).instruction = 0xF → (decodeFields op).nn = 0x07 →
    decode op = .ok (.opFX07 (decodeFields op).x)) ∧
  ∀ (s : State) (x : Reg), 1 ≤ s.timerScaler → s.delayTimer ≤ 255 * s.timerScaler →
    ∃ t, exec (.opFX07 x) s = .next t ∧
      s.delayTimer ≤ (t.V x).toNat * s.timerScaler ∧ (t.V x).toNat * s.timerScaler < s.delayTimer + s.timerScaler ∧
      ((t.V x).toNat = 0 ↔ s.delayTimer = 0) ∧ (s.timerScaler = 1 → (t.V x).toNat = s.delayTimer) ∧
      SameRegistersBut (· = x) s t ∧ t.programCounter = s.programCounter + 2 ∧ t.report = .executed ∧
      OnlyRegistersChange s t ∧
      (s.Runs (.opFX07 x) → ∃ u, step s = .next u ∧ u.V x = t.V x ∧ u.delayTimer = s.delayTimer - 1)

/-- FX15 and FX18 set DT and ST to VX times the scaler (R172, R173); the same cycle's tick then makes the timer one
lower, or leaves it 0. That the value is never masked is the spec's own decision D3 in conflict C3 (log entry 3), for a
width of the timers that is legal, which CycleKeepsInvariant keeps; the timer's width holds whatever is written. -/
def Obligations.TimersSetInTicks : Prop :=
  (∀ op : Word, (decodeFields op).instruction = 0xF →
    ((decodeFields op).nn = 0x15 → decode op = .ok (.opFX15 (decodeFields op).x)) ∧
    ((decodeFields op).nn = 0x18 → decode op = .ok (.opFX18 (decodeFields op).x))) ∧
  ∀ (s : State) (x : Reg),
    (∃ t, exec (.opFX15 x) s = .next t ∧ t.delayTimer < 2 ^ s.timerBits ∧
      (timerBitsWellFormed s.timerScaler s.timerBits = true → t.delayTimer = (s.V x).toNat * s.timerScaler) ∧
      t.soundTimer = s.soundTimer ∧ SameRegisters s t ∧ SameMemory s t ∧ t.addressRegister = s.addressRegister ∧
      t.stack = s.stack ∧ SameConfig s t ∧ SameCollaborators s t ∧ t.programCounter = s.programCounter + 2 ∧
      t.report = .executed ∧
      (s.Runs (.opFX15 x) → ∃ u, step s = .next u ∧ u.delayTimer = t.delayTimer - 1)) ∧
    (∃ t, exec (.opFX18 x) s = .next t ∧ t.soundTimer < 2 ^ s.timerBits ∧
      (timerBitsWellFormed s.timerScaler s.timerBits = true → t.soundTimer = (s.V x).toNat * s.timerScaler) ∧
      t.delayTimer = s.delayTimer ∧ SameRegisters s t ∧ SameMemory s t ∧ t.addressRegister = s.addressRegister ∧
      t.stack = s.stack ∧ SameConfig s t ∧ SameCollaborators s t ∧ t.programCounter = s.programCounter + 2 ∧
      t.report = .executed ∧
      (s.Runs (.opFX18 x) → ∃ u, step s = .next u ∧ u.soundTimer = t.soundTimer - 1))
end

