-- ==== Sys2Proof/Laws/Decode.lean ====
section
/-!
SUPPORT. The fields of a packed opcode, the opcode of its fields, and the two bytes of an opcode
(spec/30_encoding.md R61, R62, R64): the lemmas by which decoder and encoder meet.
-/

namespace Sys2Proof

theorem toNat_extractLsb' {w : Nat} (v : BitVec w) (start len : Nat) :
    (v.extractLsb' start len).toNat = v.toNat / 2 ^ start % 2 ^ len := by
  rw [BitVec.extractLsb'_toNat, Nat.shiftRight_eq_div_pow]

/-- The fields of `instruction * 4096 + X * 256 + Y * 16 + N`. -/
theorem decodeFields_packXYN (g : BitVec 4) (x y : Reg) (n : BitVec 4) :
    decodeFields (packXYN g x y n) =
      { instruction := g, x := x, y := y, n := n, nn := BitVec.ofNat 8 (y.toNat * 16 + n.toNat),
        nnn := BitVec.ofNat 12 (x.toNat * 256 + y.toNat * 16 + n.toNat) } := by
  have := g.isLt; have := x.isLt; have := y.isLt; have := n.isLt
  simp only [decodeFields, packXYN, Fields.mk.injEq]
  refine ⟨?_, ?_, ?_, ?_, ?_, ?_⟩ <;> apply BitVec.eq_of_toNat_eq <;>
    simp [Nat.shiftRight_eq_div_pow] <;> omega

/-- The fields of `instruction * 4096 + X * 256 + NN`. -/
theorem decodeFields_packXNN (g : BitVec 4) (x : Reg) (nn : Byte) :
    decodeFields (packXNN g x nn) =
      { instruction := g, x := x, y := nn.extractLsb' 4 4, n := nn.extractLsb' 0 4, nn := nn,
        nnn := BitVec.ofNat 12 (x.toNat * 256 + nn.toNat) } := by
  have := g.isLt; have := x.isLt; have := nn.isLt
  simp only [decodeFields, packXNN, Fields.mk.injEq]
  refine ⟨?_, ?_, ?_, ?_, ?_, ?_⟩ <;> apply BitVec.eq_of_toNat_eq <;>
    simp [Nat.shiftRight_eq_div_pow] <;> omega

/-- The fields of `instruction * 4096 + NNN`. -/
theorem decodeFields_packNNN (g : BitVec 4) (nnn : Addr12) :
    decodeFields (packNNN g nnn) =
      { instruction := g, x := nnn.extractLsb' 8 4, y := nnn.extractLsb' 4 4, n := nnn.extractLsb' 0 4,
        nn := nnn.extractLsb' 0 8, nnn := nnn } := by
  have := g.isLt; have := nnn.isLt
  simp only [decodeFields, packNNN, Fields.mk.injEq]
  refine ⟨?_, ?_, ?_, ?_, ?_, ?_⟩ <;> apply BitVec.eq_of_toNat_eq <;>
    simp [Nat.shiftRight_eq_div_pow] <;> omega

/-- An opcode is recovered from its four nibbles (R64). -/
theorem packXYN_decodeFields (op : Word) :
    packXYN (decodeFields op).instruction (decodeFields op).x (decodeFields op).y (decodeFields op).n = op := by
  apply BitVec.eq_of_toNat_eq
  have := op.isLt
  simp [decodeFields, packXYN, Nat.shiftRight_eq_div_pow]
  omega

/-- An opcode is recovered from its instruction nibble, X and NN (R62, R64). -/
theorem packXNN_decodeFields (op : Word) :
    packXNN (decodeFields op).instruction (decodeFields op).x (decodeFields op).nn = op := by
  apply BitVec.eq_of_toNat_eq
  have := op.isLt
  simp [decodeFields, packXNN, Nat.shiftRight_eq_div_pow]
  omega

/-- An opcode is recovered from its instruction nibble and NNN (R64). -/
theorem packNNN_decodeFields (op : Word) :
    packNNN (decodeFields op).instruction (decodeFields op).nnn = op := by
  apply BitVec.eq_of_toNat_eq
  have := op.isLt
  simp [decodeFields, packNNN, Nat.shiftRight_eq_div_pow]
  omega

/-- The decoder's fields always overlap as R62 says. -/
theorem decodeFields_wellFormed (op : Word) : (decodeFields op).wellFormed = true := by
  have := op.isLt
  simp [Fields.wellFormed, decodeFields, Nat.shiftRight_eq_div_pow]
  omega

/-- The two bytes of an opcode make the opcode (R42). -/
@[simp] theorem bigEndian_bytes (op : Word) : bigEndian (highByte op) (lowByte op) = op := by
  apply BitVec.eq_of_toNat_eq
  have := op.isLt
  simp [bigEndian, highByte, lowByte, Nat.shiftRight_eq_div_pow]
  omega

/-- `bigEndian` is `memory[a] * 256 + memory[a + 1]` (R46). -/
theorem bigEndian_toNat (high low : Byte) : (bigEndian high low).toNat = high.toNat * 256 + low.toNat := by
  have := high.isLt; have := low.isLt
  simp [bigEndian]
  omega

/-! ### The mask of a row against the fields (R77) -/

/-- A mask that keeps bits 15 to 12 and the lowest `k` bits keeps the instruction nibble and the lowest `k` bits. -/
theorem and_rowMask (op mask : Word) (k : Nat) (hk : k ≤ 12)
    (hmask : ∀ i : Fin 16, mask.getLsbD i = (decide (12 ≤ i.val) || decide (i.val < k))) :
    op &&& mask = ((decodeFields op).instruction.setWidth 16 <<< 12) ||| (op.extractLsb' 0 k).setWidth 16 := by
  ext i hi
  have hm := hmask ⟨i, hi⟩
  rw [BitVec.getLsbD_eq_getElem hi] at hm
  simp only [decodeFields, BitVec.getElem_and, hm, BitVec.getElem_or, BitVec.getElem_shiftLeft, BitVec.getElem_setWidth,
    BitVec.getLsbD_extractLsb']
  by_cases h1 : i < 12 <;> by_cases h2 : i < k
  · simp [h1, h2, show ¬ 12 ≤ i by omega, BitVec.getLsbD_eq_getElem hi]
  · simp [h1, h2, show ¬ 12 ≤ i by omega]
  · omega
  · simp [h1, h2, show 12 ≤ i by omega, show i - 12 < 4 by omega, show 12 + (i - 12) = i by omega,
      BitVec.getLsbD_eq_getElem hi]

theorem and_F000 (op : Word) : op &&& (0xF000 : Word) = (decodeFields op).instruction.setWidth 16 <<< 12 := by
  rw [and_rowMask op _ 0 (by omega) (by decide)]
  simp

theorem and_F00F (op : Word) :
    op &&& (0xF00F : Word) = ((decodeFields op).instruction.setWidth 16 <<< 12) ||| (decodeFields op).n.setWidth 16 :=
  and_rowMask op _ 4 (by omega) (by decide)

theorem and_F0FF (op : Word) :
    op &&& (0xF0FF : Word) = ((decodeFields op).instruction.setWidth 16 <<< 12) ||| (decodeFields op).nn.setWidth 16 :=
  and_rowMask op _ 8 (by omega) (by decide)

end Sys2Proof
end

