-- ==== Sys2Proof/Laws/Memory.lean ====
section
/-!
SUPPORT. The laws of memory: every operation keeps the canonical form, a byte stored is the byte read, and every other
byte reads as before (spec/20_memory.md R41, R43, R53).
-/

namespace Sys2Proof.Machine

/-! ### The canonical form is kept -/

theorem Memory.wfFrom_mono {low low' : Nat} (h : low' ≤ low) {m : Memory} (hm : m.wfFrom low = true) :
    m.wfFrom low' = true := by
  cases m with
  | nil => rfl
  | cons c rest =>
    obtain ⟨a, v⟩ := c
    simp only [Memory.wfFrom, Bool.and_eq_true, decide_eq_true_eq] at hm ⊢
    exact ⟨⟨⟨h.trans hm.1.1.1, hm.1.1.2⟩, hm.1.2⟩, hm.2⟩

theorem Memory.consCell_wfFrom {low a : Nat} {v : Byte} {m : Memory} (hlow : low ≤ a) (ha : a < memorySize)
    (hm : m.wfFrom (a + 1) = true) : (Memory.consCell a v m).wfFrom low = true := by
  unfold Memory.consCell
  split
  · exact Memory.wfFrom_mono (by omega) hm
  · simp_all [Memory.wfFrom]

theorem Memory.write_wfFrom {m : Memory} {low a : Nat} (v : Byte) (hlow : low ≤ a) (ha : a < memorySize)
    (hm : m.wfFrom low = true) : (m.write a v).wfFrom low = true := by
  induction m generalizing low with
  | nil => exact Memory.consCell_wfFrom hlow ha rfl
  | cons c rest ih =>
    obtain ⟨b, w⟩ := c
    have hb := hm
    simp only [Memory.wfFrom, Bool.and_eq_true, decide_eq_true_eq] at hb
    simp only [Memory.write]
    split
    · next h => exact Memory.consCell_wfFrom hlow ha (h ▸ hb.2)
    · split
      · refine Memory.consCell_wfFrom hlow ha ?_
        simp only [Memory.wfFrom, Bool.and_eq_true, decide_eq_true_eq]
        exact ⟨⟨⟨by omega, hb.1.1.2⟩, hb.1.2⟩, hb.2⟩
      · simp only [Memory.wfFrom, Bool.and_eq_true, decide_eq_true_eq]
        exact ⟨hb.1, ih (by omega) hb.2⟩

/-- A store inside the memory keeps the canonical form. -/
theorem Memory.write_wf {m : Memory} {a : Nat} (v : Byte) (ha : a < memorySize) (hm : m.wf = true) :
    (m.write a v).wf = true :=
  Memory.write_wfFrom v (Nat.zero_le _) ha hm

/-- Storing bytes inside the memory keeps the canonical form. -/
theorem Memory.writeBytes_wf {bytes : List Byte} {m : Memory} {a : Nat} (ha : a + bytes.length ≤ memorySize)
    (hm : m.wf = true) : (m.writeBytes a bytes).wf = true := by
  induction bytes generalizing m a with
  | nil => exact hm
  | cons b bs ih =>
    simp only [List.length_cons] at ha
    exact ih (by omega) (Memory.write_wf b (by omega) hm)

/-- Storing an opcode inside the memory keeps the canonical form. -/
theorem Memory.writeWord_wf {m : Memory} {a : Nat} (op : Word) (ha : a + 2 ≤ memorySize) (hm : m.wf = true) :
    (m.writeWord a op).wf = true :=
  Memory.writeBytes_wf (by simpa using ha) hm

/-! ### Read after write -/

/-- Below its first cell a memory in canonical form reads as 0. -/
theorem Memory.read_below {m : Memory} {low a : Nat} (hm : m.wfFrom low = true) (ha : a < low) : m.read a = 0 := by
  cases m with
  | nil => rfl
  | cons c rest =>
    obtain ⟨b, w⟩ := c
    simp only [Memory.wfFrom, Bool.and_eq_true, decide_eq_true_eq] at hm
    simp only [Memory.read]
    rw [if_neg (by omega), if_pos (by omega)]

theorem Memory.consCell_read {m : Memory} {a : Nat} (v : Byte) (x : Nat) (hm : m.wfFrom (a + 1) = true) :
    (Memory.consCell a v m).read x = if x = a then v else m.read x := by
  unfold Memory.consCell
  split
  · next h =>
    split
    · next hx => rw [h]; exact Memory.read_below hm (by omega)
    · rfl
  · simp only [Memory.read]
    split
    · rfl
    · split
      · exact (Memory.read_below hm (by omega)).symm
      · rfl

theorem Memory.write_read_from {m : Memory} {low : Nat} (a : Nat) (v : Byte) (x : Nat) (hm : m.wfFrom low = true) :
    (m.write a v).read x = if x = a then v else m.read x := by
  induction m generalizing low with
  | nil => exact Memory.consCell_read v x rfl
  | cons c rest ih =>
    obtain ⟨b, w⟩ := c
    have hb := hm
    simp only [Memory.wfFrom, Bool.and_eq_true, decide_eq_true_eq] at hb
    simp only [Memory.write]
    split
    · next h =>
      subst h
      rw [Memory.consCell_read v x hb.2]
      simp only [Memory.read]
      split
      · rfl
      · split
        · exact Memory.read_below hb.2 (by omega)
        · rfl
    · split
      · exact Memory.consCell_read v x (by
          simp only [Memory.wfFrom, Bool.and_eq_true, decide_eq_true_eq]
          exact ⟨⟨⟨by omega, hb.1.1.2⟩, hb.1.2⟩, hb.2⟩)
      · simp only [Memory.read]
        split
        · rw [if_neg (by omega)]
        · split
          · rw [if_neg (by omega)]
          · exact ih hb.2

/-- A read gives the byte last stored at its address, and every other byte is as it was (R53). -/
theorem Memory.write_read {m : Memory} (a : Nat) (v : Byte) (x : Nat) (hm : m.wf = true) :
    (m.write a v).read x = if x = a then v else m.read x :=
  Memory.write_read_from a v x hm

/-- Outside the stored bytes, storing bytes changes nothing. -/
theorem Memory.writeBytes_read_outside {bytes : List Byte} {m : Memory} {a x : Nat} (hm : m.wf = true)
    (ha : a + bytes.length ≤ memorySize) (hx : x < a ∨ a + bytes.length ≤ x) :
    (m.writeBytes a bytes).read x = m.read x := by
  induction bytes generalizing m a with
  | nil => rfl
  | cons b bs ih =>
    simp only [List.length_cons] at ha hx
    simp only [Memory.writeBytes]
    rw [ih (Memory.write_wf b (by omega) hm) (by omega) (by omega), Memory.write_read _ _ _ hm, if_neg (by omega)]

/-- The k-th stored byte is read at its address. -/
theorem Memory.writeBytes_read_inside {bytes : List Byte} {m : Memory} {a : Nat} (hm : m.wf = true)
    (ha : a + bytes.length ≤ memorySize) (k : Nat) (hk : k < bytes.length) :
    (m.writeBytes a bytes).read (a + k) = bytes[k] := by
  induction bytes generalizing m a k with
  | nil => simp at hk
  | cons b bs ih =>
    simp only [List.length_cons] at ha hk
    simp only [Memory.writeBytes]
    have hw := Memory.write_wf b (a := a) (by omega) hm
    cases k with
    | zero =>
      rw [Memory.writeBytes_read_outside hw (by omega) (by omega), Memory.write_read _ _ _ hm]
      simp
    | succ k =>
      have := ih hw (a := a + 1) (by omega) k (by omega)
      rw [show a + (k + 1) = a + 1 + k by omega, this]
      rfl

@[simp] theorem Memory.readBytes_length (m : Memory) (a n : Nat) : (m.readBytes a n).length = n := by
  induction n generalizing a with
  | zero => rfl
  | succ n ih => simp [Memory.readBytes, ih]

/-- The k-th byte read is the byte at `a + k`. -/
theorem Memory.readBytes_getElem (m : Memory) (a n k : Nat) (hk : k < (m.readBytes a n).length) :
    (m.readBytes a n)[k] = m.read (a + k) := by
  induction n generalizing a k with
  | zero => simp [Memory.readBytes] at hk
  | succ n ih =>
    cases k with
    | zero => rfl
    | succ k =>
      simp only [Memory.readBytes, List.getElem_cons_succ]
      rw [ih (a + 1) k (by simpa using hk), show a + 1 + k = a + (k + 1) by omega]

end Sys2Proof.Machine
end

