-- ==== Sys2Proof/Laws/State.lean ====
section
/-!
SUPPORT. What each update of the state does to each field: one lemma per field per update, true by definition, so that
no later proof unfolds a record update; and how reading V[i] meets them.
-/

namespace Sys2Proof.Machine

variable (s : State)

/-! ### setV -/

@[simp] theorem State.setV_memory (i : Reg) (v : Byte) : (s.setV i v).memory = s.memory := rfl
@[simp] theorem State.setV_registers (i : Reg) (v : Byte) : (s.setV i v).registers = s.registers.set i.toNat v i.isLt := rfl
@[simp] theorem State.setV_addressRegister (i : Reg) (v : Byte) : (s.setV i v).addressRegister = s.addressRegister := rfl
@[simp] theorem State.setV_programCounter (i : Reg) (v : Byte) : (s.setV i v).programCounter = s.programCounter := rfl
@[simp] theorem State.setV_stack (i : Reg) (v : Byte) : (s.setV i v).stack = s.stack := rfl
@[simp] theorem State.setV_delayTimer (i : Reg) (v : Byte) : (s.setV i v).delayTimer = s.delayTimer := rfl
@[simp] theorem State.setV_soundTimer (i : Reg) (v : Byte) : (s.setV i v).soundTimer = s.soundTimer := rfl
@[simp] theorem State.setV_timerScaler (i : Reg) (v : Byte) : (s.setV i v).timerScaler = s.timerScaler := rfl
@[simp] theorem State.setV_timerBits (i : Reg) (v : Byte) : (s.setV i v).timerBits = s.timerBits := rfl
@[simp] theorem State.setV_stackLimit (i : Reg) (v : Byte) : (s.setV i v).stackLimit = s.stackLimit := rfl
@[simp] theorem State.setV_skipKeyIndex (i : Reg) (v : Byte) : (s.setV i v).skipKeyIndex = s.skipKeyIndex := rfl
@[simp] theorem State.setV_report (i : Reg) (v : Byte) : (s.setV i v).report = s.report := rfl
@[simp] theorem State.setV_calls (i : Reg) (v : Byte) : (s.setV i v).calls = s.calls := rfl
@[simp] theorem State.setV_randomInputs (i : Reg) (v : Byte) : (s.setV i v).randomInputs = s.randomInputs := rfl
@[simp] theorem State.setV_flipInputs (i : Reg) (v : Byte) : (s.setV i v).flipInputs = s.flipInputs := rfl
@[simp] theorem State.setV_pressedInputs (i : Reg) (v : Byte) : (s.setV i v).pressedInputs = s.pressedInputs := rfl
@[simp] theorem State.setV_anyKeyInputs (i : Reg) (v : Byte) : (s.setV i v).anyKeyInputs = s.anyKeyInputs := rfl
@[simp] theorem State.setV_draws (i : Reg) (v : Byte) : (s.setV i v).draws = s.draws := rfl

/-! ### setFlag -/

@[simp] theorem State.setFlag_memory (v : Byte) : (s.setFlag v).memory = s.memory := rfl
@[simp] theorem State.setFlag_registers (v : Byte) : (s.setFlag v).registers = s.registers.set 15 v := rfl
@[simp] theorem State.setFlag_addressRegister (v : Byte) : (s.setFlag v).addressRegister = s.addressRegister := rfl
@[simp] theorem State.setFlag_programCounter (v : Byte) : (s.setFlag v).programCounter = s.programCounter := rfl
@[simp] theorem State.setFlag_stack (v : Byte) : (s.setFlag v).stack = s.stack := rfl
@[simp] theorem State.setFlag_delayTimer (v : Byte) : (s.setFlag v).delayTimer = s.delayTimer := rfl
@[simp] theorem State.setFlag_soundTimer (v : Byte) : (s.setFlag v).soundTimer = s.soundTimer := rfl
@[simp] theorem State.setFlag_timerScaler (v : Byte) : (s.setFlag v).timerScaler = s.timerScaler := rfl
@[simp] theorem State.setFlag_timerBits (v : Byte) : (s.setFlag v).timerBits = s.timerBits := rfl
@[simp] theorem State.setFlag_stackLimit (v : Byte) : (s.setFlag v).stackLimit = s.stackLimit := rfl
@[simp] theorem State.setFlag_skipKeyIndex (v : Byte) : (s.setFlag v).skipKeyIndex = s.skipKeyIndex := rfl
@[simp] theorem State.setFlag_report (v : Byte) : (s.setFlag v).report = s.report := rfl
@[simp] theorem State.setFlag_calls (v : Byte) : (s.setFlag v).calls = s.calls := rfl
@[simp] theorem State.setFlag_randomInputs (v : Byte) : (s.setFlag v).randomInputs = s.randomInputs := rfl
@[simp] theorem State.setFlag_flipInputs (v : Byte) : (s.setFlag v).flipInputs = s.flipInputs := rfl
@[simp] theorem State.setFlag_pressedInputs (v : Byte) : (s.setFlag v).pressedInputs = s.pressedInputs := rfl
@[simp] theorem State.setFlag_anyKeyInputs (v : Byte) : (s.setFlag v).anyKeyInputs = s.anyKeyInputs := rfl
@[simp] theorem State.setFlag_draws (v : Byte) : (s.setFlag v).draws = s.draws := rfl

/-! ### setI -/

@[simp] theorem State.setI_memory (v : Word) : (s.setI v).memory = s.memory := rfl
@[simp] theorem State.setI_registers (v : Word) : (s.setI v).registers = s.registers := rfl
@[simp] theorem State.setI_addressRegister (v : Word) : (s.setI v).addressRegister = v := rfl
@[simp] theorem State.setI_programCounter (v : Word) : (s.setI v).programCounter = s.programCounter := rfl
@[simp] theorem State.setI_stack (v : Word) : (s.setI v).stack = s.stack := rfl
@[simp] theorem State.setI_delayTimer (v : Word) : (s.setI v).delayTimer = s.delayTimer := rfl
@[simp] theorem State.setI_soundTimer (v : Word) : (s.setI v).soundTimer = s.soundTimer := rfl
@[simp] theorem State.setI_timerScaler (v : Word) : (s.setI v).timerScaler = s.timerScaler := rfl
@[simp] theorem State.setI_timerBits (v : Word) : (s.setI v).timerBits = s.timerBits := rfl
@[simp] theorem State.setI_stackLimit (v : Word) : (s.setI v).stackLimit = s.stackLimit := rfl
@[simp] theorem State.setI_skipKeyIndex (v : Word) : (s.setI v).skipKeyIndex = s.skipKeyIndex := rfl
@[simp] theorem State.setI_report (v : Word) : (s.setI v).report = s.report := rfl
@[simp] theorem State.setI_calls (v : Word) : (s.setI v).calls = s.calls := rfl
@[simp] theorem State.setI_randomInputs (v : Word) : (s.setI v).randomInputs = s.randomInputs := rfl
@[simp] theorem State.setI_flipInputs (v : Word) : (s.setI v).flipInputs = s.flipInputs := rfl
@[simp] theorem State.setI_pressedInputs (v : Word) : (s.setI v).pressedInputs = s.pressedInputs := rfl
@[simp] theorem State.setI_anyKeyInputs (v : Word) : (s.setI v).anyKeyInputs = s.anyKeyInputs := rfl
@[simp] theorem State.setI_draws (v : Word) : (s.setI v).draws = s.draws := rfl
@[simp] theorem State.setI_V (v : Word) (r : Reg) : (s.setI v).V r = s.V r := rfl

/-! ### setPc -/

@[simp] theorem State.setPc_memory (v : Word) : (s.setPc v).memory = s.memory := rfl
@[simp] theorem State.setPc_registers (v : Word) : (s.setPc v).registers = s.registers := rfl
@[simp] theorem State.setPc_addressRegister (v : Word) : (s.setPc v).addressRegister = s.addressRegister := rfl
@[simp] theorem State.setPc_programCounter (v : Word) : (s.setPc v).programCounter = v := rfl
@[simp] theorem State.setPc_stack (v : Word) : (s.setPc v).stack = s.stack := rfl
@[simp] theorem State.setPc_delayTimer (v : Word) : (s.setPc v).delayTimer = s.delayTimer := rfl
@[simp] theorem State.setPc_soundTimer (v : Word) : (s.setPc v).soundTimer = s.soundTimer := rfl
@[simp] theorem State.setPc_timerScaler (v : Word) : (s.setPc v).timerScaler = s.timerScaler := rfl
@[simp] theorem State.setPc_timerBits (v : Word) : (s.setPc v).timerBits = s.timerBits := rfl
@[simp] theorem State.setPc_stackLimit (v : Word) : (s.setPc v).stackLimit = s.stackLimit := rfl
@[simp] theorem State.setPc_skipKeyIndex (v : Word) : (s.setPc v).skipKeyIndex = s.skipKeyIndex := rfl
@[simp] theorem State.setPc_report (v : Word) : (s.setPc v).report = s.report := rfl
@[simp] theorem State.setPc_calls (v : Word) : (s.setPc v).calls = s.calls := rfl
@[simp] theorem State.setPc_randomInputs (v : Word) : (s.setPc v).randomInputs = s.randomInputs := rfl
@[simp] theorem State.setPc_flipInputs (v : Word) : (s.setPc v).flipInputs = s.flipInputs := rfl
@[simp] theorem State.setPc_pressedInputs (v : Word) : (s.setPc v).pressedInputs = s.pressedInputs := rfl
@[simp] theorem State.setPc_anyKeyInputs (v : Word) : (s.setPc v).anyKeyInputs = s.anyKeyInputs := rfl
@[simp] theorem State.setPc_draws (v : Word) : (s.setPc v).draws = s.draws := rfl
@[simp] theorem State.setPc_V (v : Word) (r : Reg) : (s.setPc v).V r = s.V r := rfl

/-! ### advance -/

@[simp] theorem State.advance_memory : (s.advance).memory = s.memory := rfl
@[simp] theorem State.advance_registers : (s.advance).registers = s.registers := rfl
@[simp] theorem State.advance_addressRegister : (s.advance).addressRegister = s.addressRegister := rfl
@[simp] theorem State.advance_programCounter : (s.advance).programCounter = s.programCounter + 2 := rfl
@[simp] theorem State.advance_stack : (s.advance).stack = s.stack := rfl
@[simp] theorem State.advance_delayTimer : (s.advance).delayTimer = s.delayTimer := rfl
@[simp] theorem State.advance_soundTimer : (s.advance).soundTimer = s.soundTimer := rfl
@[simp] theorem State.advance_timerScaler : (s.advance).timerScaler = s.timerScaler := rfl
@[simp] theorem State.advance_timerBits : (s.advance).timerBits = s.timerBits := rfl
@[simp] theorem State.advance_stackLimit : (s.advance).stackLimit = s.stackLimit := rfl
@[simp] theorem State.advance_skipKeyIndex : (s.advance).skipKeyIndex = s.skipKeyIndex := rfl
@[simp] theorem State.advance_report : (s.advance).report = s.report := rfl
@[simp] theorem State.advance_calls : (s.advance).calls = s.calls := rfl
@[simp] theorem State.advance_randomInputs : (s.advance).randomInputs = s.randomInputs := rfl
@[simp] theorem State.advance_flipInputs : (s.advance).flipInputs = s.flipInputs := rfl
@[simp] theorem State.advance_pressedInputs : (s.advance).pressedInputs = s.pressedInputs := rfl
@[simp] theorem State.advance_anyKeyInputs : (s.advance).anyKeyInputs = s.anyKeyInputs := rfl
@[simp] theorem State.advance_draws : (s.advance).draws = s.draws := rfl
@[simp] theorem State.advance_V (r : Reg) : (s.advance).V r = s.V r := rfl

/-! ### setDelay -/

@[simp] theorem State.setDelay_memory (v : Nat) : (s.setDelay v).memory = s.memory := rfl
@[simp] theorem State.setDelay_registers (v : Nat) : (s.setDelay v).registers = s.registers := rfl
@[simp] theorem State.setDelay_addressRegister (v : Nat) : (s.setDelay v).addressRegister = s.addressRegister := rfl
@[simp] theorem State.setDelay_programCounter (v : Nat) : (s.setDelay v).programCounter = s.programCounter := rfl
@[simp] theorem State.setDelay_stack (v : Nat) : (s.setDelay v).stack = s.stack := rfl
@[simp] theorem State.setDelay_delayTimer (v : Nat) : (s.setDelay v).delayTimer = v := rfl
@[simp] theorem State.setDelay_soundTimer (v : Nat) : (s.setDelay v).soundTimer = s.soundTimer := rfl
@[simp] theorem State.setDelay_timerScaler (v : Nat) : (s.setDelay v).timerScaler = s.timerScaler := rfl
@[simp] theorem State.setDelay_timerBits (v : Nat) : (s.setDelay v).timerBits = s.timerBits := rfl
@[simp] theorem State.setDelay_stackLimit (v : Nat) : (s.setDelay v).stackLimit = s.stackLimit := rfl
@[simp] theorem State.setDelay_skipKeyIndex (v : Nat) : (s.setDelay v).skipKeyIndex = s.skipKeyIndex := rfl
@[simp] theorem State.setDelay_report (v : Nat) : (s.setDelay v).report = s.report := rfl
@[simp] theorem State.setDelay_calls (v : Nat) : (s.setDelay v).calls = s.calls := rfl
@[simp] theorem State.setDelay_randomInputs (v : Nat) : (s.setDelay v).randomInputs = s.randomInputs := rfl
@[simp] theorem State.setDelay_flipInputs (v : Nat) : (s.setDelay v).flipInputs = s.flipInputs := rfl
@[simp] theorem State.setDelay_pressedInputs (v : Nat) : (s.setDelay v).pressedInputs = s.pressedInputs := rfl
@[simp] theorem State.setDelay_anyKeyInputs (v : Nat) : (s.setDelay v).anyKeyInputs = s.anyKeyInputs := rfl
@[simp] theorem State.setDelay_draws (v : Nat) : (s.setDelay v).draws = s.draws := rfl
@[simp] theorem State.setDelay_V (v : Nat) (r : Reg) : (s.setDelay v).V r = s.V r := rfl

/-! ### setSound -/

@[simp] theorem State.setSound_memory (v : Nat) : (s.setSound v).memory = s.memory := rfl
@[simp] theorem State.setSound_registers (v : Nat) : (s.setSound v).registers = s.registers := rfl
@[simp] theorem State.setSound_addressRegister (v : Nat) : (s.setSound v).addressRegister = s.addressRegister := rfl
@[simp] theorem State.setSound_programCounter (v : Nat) : (s.setSound v).programCounter = s.programCounter := rfl
@[simp] theorem State.setSound_stack (v : Nat) : (s.setSound v).stack = s.stack := rfl
@[simp] theorem State.setSound_delayTimer (v : Nat) : (s.setSound v).delayTimer = s.delayTimer := rfl
@[simp] theorem State.setSound_soundTimer (v : Nat) : (s.setSound v).soundTimer = v := rfl
@[simp] theorem State.setSound_timerScaler (v : Nat) : (s.setSound v).timerScaler = s.timerScaler := rfl
@[simp] theorem State.setSound_timerBits (v : Nat) : (s.setSound v).timerBits = s.timerBits := rfl
@[simp] theorem State.setSound_stackLimit (v : Nat) : (s.setSound v).stackLimit = s.stackLimit := rfl
@[simp] theorem State.setSound_skipKeyIndex (v : Nat) : (s.setSound v).skipKeyIndex = s.skipKeyIndex := rfl
@[simp] theorem State.setSound_report (v : Nat) : (s.setSound v).report = s.report := rfl
@[simp] theorem State.setSound_calls (v : Nat) : (s.setSound v).calls = s.calls := rfl
@[simp] theorem State.setSound_randomInputs (v : Nat) : (s.setSound v).randomInputs = s.randomInputs := rfl
@[simp] theorem State.setSound_flipInputs (v : Nat) : (s.setSound v).flipInputs = s.flipInputs := rfl
@[simp] theorem State.setSound_pressedInputs (v : Nat) : (s.setSound v).pressedInputs = s.pressedInputs := rfl
@[simp] theorem State.setSound_anyKeyInputs (v : Nat) : (s.setSound v).anyKeyInputs = s.anyKeyInputs := rfl
@[simp] theorem State.setSound_draws (v : Nat) : (s.setSound v).draws = s.draws := rfl
@[simp] theorem State.setSound_V (v : Nat) (r : Reg) : (s.setSound v).V r = s.V r := rfl

/-! ### tick -/

@[simp] theorem State.tick_memory : (s.tick).memory = s.memory := rfl
@[simp] theorem State.tick_registers : (s.tick).registers = s.registers := rfl
@[simp] theorem State.tick_addressRegister : (s.tick).addressRegister = s.addressRegister := rfl
@[simp] theorem State.tick_programCounter : (s.tick).programCounter = s.programCounter := rfl
@[simp] theorem State.tick_stack : (s.tick).stack = s.stack := rfl
@[simp] theorem State.tick_delayTimer : (s.tick).delayTimer = s.delayTimer - 1 := rfl
@[simp] theorem State.tick_soundTimer : (s.tick).soundTimer = s.soundTimer - 1 := rfl
@[simp] theorem State.tick_timerScaler : (s.tick).timerScaler = s.timerScaler := rfl
@[simp] theorem State.tick_timerBits : (s.tick).timerBits = s.timerBits := rfl
@[simp] theorem State.tick_stackLimit : (s.tick).stackLimit = s.stackLimit := rfl
@[simp] theorem State.tick_skipKeyIndex : (s.tick).skipKeyIndex = s.skipKeyIndex := rfl
@[simp] theorem State.tick_report : (s.tick).report = s.report := rfl
@[simp] theorem State.tick_calls : (s.tick).calls = s.calls := rfl
@[simp] theorem State.tick_randomInputs : (s.tick).randomInputs = s.randomInputs := rfl
@[simp] theorem State.tick_flipInputs : (s.tick).flipInputs = s.flipInputs := rfl
@[simp] theorem State.tick_pressedInputs : (s.tick).pressedInputs = s.pressedInputs := rfl
@[simp] theorem State.tick_anyKeyInputs : (s.tick).anyKeyInputs = s.anyKeyInputs := rfl
@[simp] theorem State.tick_draws : (s.tick).draws = s.draws := rfl
@[simp] theorem State.tick_V (r : Reg) : (s.tick).V r = s.V r := rfl

/-! ### setMemory -/

@[simp] theorem State.setMemory_memory (m : Memory) : (s.setMemory m).memory = m := rfl
@[simp] theorem State.setMemory_registers (m : Memory) : (s.setMemory m).registers = s.registers := rfl
@[simp] theorem State.setMemory_addressRegister (m : Memory) : (s.setMemory m).addressRegister = s.addressRegister := rfl
@[simp] theorem State.setMemory_programCounter (m : Memory) : (s.setMemory m).programCounter = s.programCounter := rfl
@[simp] theorem State.setMemory_stack (m : Memory) : (s.setMemory m).stack = s.stack := rfl
@[simp] theorem State.setMemory_delayTimer (m : Memory) : (s.setMemory m).delayTimer = s.delayTimer := rfl
@[simp] theorem State.setMemory_soundTimer (m : Memory) : (s.setMemory m).soundTimer = s.soundTimer := rfl
@[simp] theorem State.setMemory_timerScaler (m : Memory) : (s.setMemory m).timerScaler = s.timerScaler := rfl
@[simp] theorem State.setMemory_timerBits (m : Memory) : (s.setMemory m).timerBits = s.timerBits := rfl
@[simp] theorem State.setMemory_stackLimit (m : Memory) : (s.setMemory m).stackLimit = s.stackLimit := rfl
@[simp] theorem State.setMemory_skipKeyIndex (m : Memory) : (s.setMemory m).skipKeyIndex = s.skipKeyIndex := rfl
@[simp] theorem State.setMemory_report (m : Memory) : (s.setMemory m).report = s.report := rfl
@[simp] theorem State.setMemory_calls (m : Memory) : (s.setMemory m).calls = s.calls := rfl
@[simp] theorem State.setMemory_randomInputs (m : Memory) : (s.setMemory m).randomInputs = s.randomInputs := rfl
@[simp] theorem State.setMemory_flipInputs (m : Memory) : (s.setMemory m).flipInputs = s.flipInputs := rfl
@[simp] theorem State.setMemory_pressedInputs (m : Memory) : (s.setMemory m).pressedInputs = s.pressedInputs := rfl
@[simp] theorem State.setMemory_anyKeyInputs (m : Memory) : (s.setMemory m).anyKeyInputs = s.anyKeyInputs := rfl
@[simp] theorem State.setMemory_draws (m : Memory) : (s.setMemory m).draws = s.draws := rfl
@[simp] theorem State.setMemory_V (m : Memory) (r : Reg) : (s.setMemory m).V r = s.V r := rfl

/-! ### setStack -/

@[simp] theorem State.setStack_memory (l : List Word) : (s.setStack l).memory = s.memory := rfl
@[simp] theorem State.setStack_registers (l : List Word) : (s.setStack l).registers = s.registers := rfl
@[simp] theorem State.setStack_addressRegister (l : List Word) : (s.setStack l).addressRegister = s.addressRegister := rfl
@[simp] theorem State.setStack_programCounter (l : List Word) : (s.setStack l).programCounter = s.programCounter := rfl
@[simp] theorem State.setStack_stack (l : List Word) : (s.setStack l).stack = l := rfl
@[simp] theorem State.setStack_delayTimer (l : List Word) : (s.setStack l).delayTimer = s.delayTimer := rfl
@[simp] theorem State.setStack_soundTimer (l : List Word) : (s.setStack l).soundTimer = s.soundTimer := rfl
@[simp] theorem State.setStack_timerScaler (l : List Word) : (s.setStack l).timerScaler = s.timerScaler := rfl
@[simp] theorem State.setStack_timerBits (l : List Word) : (s.setStack l).timerBits = s.timerBits := rfl
@[simp] theorem State.setStack_stackLimit (l : List Word) : (s.setStack l).stackLimit = s.stackLimit := rfl
@[simp] theorem State.setStack_skipKeyIndex (l : List Word) : (s.setStack l).skipKeyIndex = s.skipKeyIndex := rfl
@[simp] theorem State.setStack_report (l : List Word) : (s.setStack l).report = s.report := rfl
@[simp] theorem State.setStack_calls (l : List Word) : (s.setStack l).calls = s.calls := rfl
@[simp] theorem State.setStack_randomInputs (l : List Word) : (s.setStack l).randomInputs = s.randomInputs := rfl
@[simp] theorem State.setStack_flipInputs (l : List Word) : (s.setStack l).flipInputs = s.flipInputs := rfl
@[simp] theorem State.setStack_pressedInputs (l : List Word) : (s.setStack l).pressedInputs = s.pressedInputs := rfl
@[simp] theorem State.setStack_anyKeyInputs (l : List Word) : (s.setStack l).anyKeyInputs = s.anyKeyInputs := rfl
@[simp] theorem State.setStack_draws (l : List Word) : (s.setStack l).draws = s.draws := rfl
@[simp] theorem State.setStack_V (l : List Word) (r : Reg) : (s.setStack l).V r = s.V r := rfl

/-! ### push -/

@[simp] theorem State.push_memory (v : Word) : (s.push v).memory = s.memory := rfl
@[simp] theorem State.push_registers (v : Word) : (s.push v).registers = s.registers := rfl
@[simp] theorem State.push_addressRegister (v : Word) : (s.push v).addressRegister = s.addressRegister := rfl
@[simp] theorem State.push_programCounter (v : Word) : (s.push v).programCounter = s.programCounter := rfl
@[simp] theorem State.push_stack (v : Word) : (s.push v).stack = v :: s.stack := rfl
@[simp] theorem State.push_delayTimer (v : Word) : (s.push v).delayTimer = s.delayTimer := rfl
@[simp] theorem State.push_soundTimer (v : Word) : (s.push v).soundTimer = s.soundTimer := rfl
@[simp] theorem State.push_timerScaler (v : Word) : (s.push v).timerScaler = s.timerScaler := rfl
@[simp] theorem State.push_timerBits (v : Word) : (s.push v).timerBits = s.timerBits := rfl
@[simp] theorem State.push_stackLimit (v : Word) : (s.push v).stackLimit = s.stackLimit := rfl
@[simp] theorem State.push_skipKeyIndex (v : Word) : (s.push v).skipKeyIndex = s.skipKeyIndex := rfl
@[simp] theorem State.push_report (v : Word) : (s.push v).report = s.report := rfl
@[simp] theorem State.push_calls (v : Word) : (s.push v).calls = s.calls := rfl
@[simp] theorem State.push_randomInputs (v : Word) : (s.push v).randomInputs = s.randomInputs := rfl
@[simp] theorem State.push_flipInputs (v : Word) : (s.push v).flipInputs = s.flipInputs := rfl
@[simp] theorem State.push_pressedInputs (v : Word) : (s.push v).pressedInputs = s.pressedInputs := rfl
@[simp] theorem State.push_anyKeyInputs (v : Word) : (s.push v).anyKeyInputs = s.anyKeyInputs := rfl
@[simp] theorem State.push_draws (v : Word) : (s.push v).draws = s.draws := rfl
@[simp] theorem State.push_V (v : Word) (r : Reg) : (s.push v).V r = s.V r := rfl

/-! ### setReport -/

@[simp] theorem State.setReport_memory (r : Report) : (s.setReport r).memory = s.memory := rfl
@[simp] theorem State.setReport_registers (r : Report) : (s.setReport r).registers = s.registers := rfl
@[simp] theorem State.setReport_addressRegister (r : Report) : (s.setReport r).addressRegister = s.addressRegister := rfl
@[simp] theorem State.setReport_programCounter (r : Report) : (s.setReport r).programCounter = s.programCounter := rfl
@[simp] theorem State.setReport_stack (r : Report) : (s.setReport r).stack = s.stack := rfl
@[simp] theorem State.setReport_delayTimer (r : Report) : (s.setReport r).delayTimer = s.delayTimer := rfl
@[simp] theorem State.setReport_soundTimer (r : Report) : (s.setReport r).soundTimer = s.soundTimer := rfl
@[simp] theorem State.setReport_timerScaler (r : Report) : (s.setReport r).timerScaler = s.timerScaler := rfl
@[simp] theorem State.setReport_timerBits (r : Report) : (s.setReport r).timerBits = s.timerBits := rfl
@[simp] theorem State.setReport_stackLimit (r : Report) : (s.setReport r).stackLimit = s.stackLimit := rfl
@[simp] theorem State.setReport_skipKeyIndex (r : Report) : (s.setReport r).skipKeyIndex = s.skipKeyIndex := rfl
@[simp] theorem State.setReport_report (r : Report) : (s.setReport r).report = r := rfl
@[simp] theorem State.setReport_calls (r : Report) : (s.setReport r).calls = s.calls := rfl
@[simp] theorem State.setReport_randomInputs (r : Report) : (s.setReport r).randomInputs = s.randomInputs := rfl
@[simp] theorem State.setReport_flipInputs (r : Report) : (s.setReport r).flipInputs = s.flipInputs := rfl
@[simp] theorem State.setReport_pressedInputs (r : Report) : (s.setReport r).pressedInputs = s.pressedInputs := rfl
@[simp] theorem State.setReport_anyKeyInputs (r : Report) : (s.setReport r).anyKeyInputs = s.anyKeyInputs := rfl
@[simp] theorem State.setReport_draws (r : Report) : (s.setReport r).draws = s.draws := rfl
@[simp] theorem State.setReport_V (rep : Report) (r : Reg) : (s.setReport rep).V r = s.V r := rfl

/-! ### callClear -/

@[simp] theorem State.callClear_memory : (s.callClear).memory = s.memory := rfl
@[simp] theorem State.callClear_registers : (s.callClear).registers = s.registers := rfl
@[simp] theorem State.callClear_addressRegister : (s.callClear).addressRegister = s.addressRegister := rfl
@[simp] theorem State.callClear_programCounter : (s.callClear).programCounter = s.programCounter := rfl
@[simp] theorem State.callClear_stack : (s.callClear).stack = s.stack := rfl
@[simp] theorem State.callClear_delayTimer : (s.callClear).delayTimer = s.delayTimer := rfl
@[simp] theorem State.callClear_soundTimer : (s.callClear).soundTimer = s.soundTimer := rfl
@[simp] theorem State.callClear_timerScaler : (s.callClear).timerScaler = s.timerScaler := rfl
@[simp] theorem State.callClear_timerBits : (s.callClear).timerBits = s.timerBits := rfl
@[simp] theorem State.callClear_stackLimit : (s.callClear).stackLimit = s.stackLimit := rfl
@[simp] theorem State.callClear_skipKeyIndex : (s.callClear).skipKeyIndex = s.skipKeyIndex := rfl
@[simp] theorem State.callClear_report : (s.callClear).report = s.report := rfl
@[simp] theorem State.callClear_calls : (s.callClear).calls = s.calls ++ [.clear] := rfl
@[simp] theorem State.callClear_randomInputs : (s.callClear).randomInputs = s.randomInputs := rfl
@[simp] theorem State.callClear_flipInputs : (s.callClear).flipInputs = s.flipInputs := rfl
@[simp] theorem State.callClear_pressedInputs : (s.callClear).pressedInputs = s.pressedInputs := rfl
@[simp] theorem State.callClear_anyKeyInputs : (s.callClear).anyKeyInputs = s.anyKeyInputs := rfl
@[simp] theorem State.callClear_draws : (s.callClear).draws = s.draws := rfl
@[simp] theorem State.callClear_V (r : Reg) : (s.callClear).V r = s.V r := rfl

/-! ### callRandom -/

@[simp] theorem State.callRandom_memory : (s.callRandom).memory = s.memory := rfl
@[simp] theorem State.callRandom_registers : (s.callRandom).registers = s.registers := rfl
@[simp] theorem State.callRandom_addressRegister : (s.callRandom).addressRegister = s.addressRegister := rfl
@[simp] theorem State.callRandom_programCounter : (s.callRandom).programCounter = s.programCounter := rfl
@[simp] theorem State.callRandom_stack : (s.callRandom).stack = s.stack := rfl
@[simp] theorem State.callRandom_delayTimer : (s.callRandom).delayTimer = s.delayTimer := rfl
@[simp] theorem State.callRandom_soundTimer : (s.callRandom).soundTimer = s.soundTimer := rfl
@[simp] theorem State.callRandom_timerScaler : (s.callRandom).timerScaler = s.timerScaler := rfl
@[simp] theorem State.callRandom_timerBits : (s.callRandom).timerBits = s.timerBits := rfl
@[simp] theorem State.callRandom_stackLimit : (s.callRandom).stackLimit = s.stackLimit := rfl
@[simp] theorem State.callRandom_skipKeyIndex : (s.callRandom).skipKeyIndex = s.skipKeyIndex := rfl
@[simp] theorem State.callRandom_report : (s.callRandom).report = s.report := rfl
@[simp] theorem State.callRandom_calls : (s.callRandom).calls = s.calls ++ [.random s.randomAnswer] := rfl
@[simp] theorem State.callRandom_randomInputs : (s.callRandom).randomInputs = s.randomInputs.tail := rfl
@[simp] theorem State.callRandom_flipInputs : (s.callRandom).flipInputs = s.flipInputs := rfl
@[simp] theorem State.callRandom_pressedInputs : (s.callRandom).pressedInputs = s.pressedInputs := rfl
@[simp] theorem State.callRandom_anyKeyInputs : (s.callRandom).anyKeyInputs = s.anyKeyInputs := rfl
@[simp] theorem State.callRandom_draws : (s.callRandom).draws = s.draws + 1 := rfl
@[simp] theorem State.callRandom_V (r : Reg) : (s.callRandom).V r = s.V r := rfl

/-! ### callFlip -/

@[simp] theorem State.callFlip_memory (x y : Nat) : (s.callFlip x y).memory = s.memory := rfl
@[simp] theorem State.callFlip_registers (x y : Nat) : (s.callFlip x y).registers = s.registers := rfl
@[simp] theorem State.callFlip_addressRegister (x y : Nat) : (s.callFlip x y).addressRegister = s.addressRegister := rfl
@[simp] theorem State.callFlip_programCounter (x y : Nat) : (s.callFlip x y).programCounter = s.programCounter := rfl
@[simp] theorem State.callFlip_stack (x y : Nat) : (s.callFlip x y).stack = s.stack := rfl
@[simp] theorem State.callFlip_delayTimer (x y : Nat) : (s.callFlip x y).delayTimer = s.delayTimer := rfl
@[simp] theorem State.callFlip_soundTimer (x y : Nat) : (s.callFlip x y).soundTimer = s.soundTimer := rfl
@[simp] theorem State.callFlip_timerScaler (x y : Nat) : (s.callFlip x y).timerScaler = s.timerScaler := rfl
@[simp] theorem State.callFlip_timerBits (x y : Nat) : (s.callFlip x y).timerBits = s.timerBits := rfl
@[simp] theorem State.callFlip_stackLimit (x y : Nat) : (s.callFlip x y).stackLimit = s.stackLimit := rfl
@[simp] theorem State.callFlip_skipKeyIndex (x y : Nat) : (s.callFlip x y).skipKeyIndex = s.skipKeyIndex := rfl
@[simp] theorem State.callFlip_report (x y : Nat) : (s.callFlip x y).report = s.report := rfl
@[simp] theorem State.callFlip_calls (x y : Nat) : (s.callFlip x y).calls = s.calls ++ [.flip x y s.flipAnswer] := rfl
@[simp] theorem State.callFlip_randomInputs (x y : Nat) : (s.callFlip x y).randomInputs = s.randomInputs := rfl
@[simp] theorem State.callFlip_flipInputs (x y : Nat) : (s.callFlip x y).flipInputs = s.flipInputs.tail := rfl
@[simp] theorem State.callFlip_pressedInputs (x y : Nat) : (s.callFlip x y).pressedInputs = s.pressedInputs := rfl
@[simp] theorem State.callFlip_anyKeyInputs (x y : Nat) : (s.callFlip x y).anyKeyInputs = s.anyKeyInputs := rfl
@[simp] theorem State.callFlip_draws (x y : Nat) : (s.callFlip x y).draws = s.draws + 1 := rfl
@[simp] theorem State.callFlip_V (x y : Nat) (r : Reg) : (s.callFlip x y).V r = s.V r := rfl

/-! ### callPressed -/

@[simp] theorem State.callPressed_memory (k : Key) : (s.callPressed k).memory = s.memory := rfl
@[simp] theorem State.callPressed_registers (k : Key) : (s.callPressed k).registers = s.registers := rfl
@[simp] theorem State.callPressed_addressRegister (k : Key) : (s.callPressed k).addressRegister = s.addressRegister := rfl
@[simp] theorem State.callPressed_programCounter (k : Key) : (s.callPressed k).programCounter = s.programCounter := rfl
@[simp] theorem State.callPressed_stack (k : Key) : (s.callPressed k).stack = s.stack := rfl
@[simp] theorem State.callPressed_delayTimer (k : Key) : (s.callPressed k).delayTimer = s.delayTimer := rfl
@[simp] theorem State.callPressed_soundTimer (k : Key) : (s.callPressed k).soundTimer = s.soundTimer := rfl
@[simp] theorem State.callPressed_timerScaler (k : Key) : (s.callPressed k).timerScaler = s.timerScaler := rfl
@[simp] theorem State.callPressed_timerBits (k : Key) : (s.callPressed k).timerBits = s.timerBits := rfl
@[simp] theorem State.callPressed_stackLimit (k : Key) : (s.callPressed k).stackLimit = s.stackLimit := rfl
@[simp] theorem State.callPressed_skipKeyIndex (k : Key) : (s.callPressed k).skipKeyIndex = s.skipKeyIndex := rfl
@[simp] theorem State.callPressed_report (k : Key) : (s.callPressed k).report = s.report := rfl
@[simp] theorem State.callPressed_calls (k : Key) : (s.callPressed k).calls = s.calls ++ [.pressed k s.pressedAnswer] := rfl
@[simp] theorem State.callPressed_randomInputs (k : Key) : (s.callPressed k).randomInputs = s.randomInputs := rfl
@[simp] theorem State.callPressed_flipInputs (k : Key) : (s.callPressed k).flipInputs = s.flipInputs := rfl
@[simp] theorem State.callPressed_pressedInputs (k : Key) : (s.callPressed k).pressedInputs = s.pressedInputs.tail := rfl
@[simp] theorem State.callPressed_anyKeyInputs (k : Key) : (s.callPressed k).anyKeyInputs = s.anyKeyInputs := rfl
@[simp] theorem State.callPressed_draws (k : Key) : (s.callPressed k).draws = s.draws + 1 := rfl
@[simp] theorem State.callPressed_V (k : Key) (r : Reg) : (s.callPressed k).V r = s.V r := rfl

/-! ### callAnyKey -/

@[simp] theorem State.callAnyKey_memory : (s.callAnyKey).memory = s.memory := rfl
@[simp] theorem State.callAnyKey_registers : (s.callAnyKey).registers = s.registers := rfl
@[simp] theorem State.callAnyKey_addressRegister : (s.callAnyKey).addressRegister = s.addressRegister := rfl
@[simp] theorem State.callAnyKey_programCounter : (s.callAnyKey).programCounter = s.programCounter := rfl
@[simp] theorem State.callAnyKey_stack : (s.callAnyKey).stack = s.stack := rfl
@[simp] theorem State.callAnyKey_delayTimer : (s.callAnyKey).delayTimer = s.delayTimer := rfl
@[simp] theorem State.callAnyKey_soundTimer : (s.callAnyKey).soundTimer = s.soundTimer := rfl
@[simp] theorem State.callAnyKey_timerScaler : (s.callAnyKey).timerScaler = s.timerScaler := rfl
@[simp] theorem State.callAnyKey_timerBits : (s.callAnyKey).timerBits = s.timerBits := rfl
@[simp] theorem State.callAnyKey_stackLimit : (s.callAnyKey).stackLimit = s.stackLimit := rfl
@[simp] theorem State.callAnyKey_skipKeyIndex : (s.callAnyKey).skipKeyIndex = s.skipKeyIndex := rfl
@[simp] theorem State.callAnyKey_report : (s.callAnyKey).report = s.report := rfl
@[simp] theorem State.callAnyKey_calls : (s.callAnyKey).calls = s.calls ++ [.anyKey s.anyKeyAnswer] := rfl
@[simp] theorem State.callAnyKey_randomInputs : (s.callAnyKey).randomInputs = s.randomInputs := rfl
@[simp] theorem State.callAnyKey_flipInputs : (s.callAnyKey).flipInputs = s.flipInputs := rfl
@[simp] theorem State.callAnyKey_pressedInputs : (s.callAnyKey).pressedInputs = s.pressedInputs := rfl
@[simp] theorem State.callAnyKey_anyKeyInputs : (s.callAnyKey).anyKeyInputs = s.anyKeyInputs.tail := rfl
@[simp] theorem State.callAnyKey_draws : (s.callAnyKey).draws = s.draws + 1 := rfl
@[simp] theorem State.callAnyKey_V (r : Reg) : (s.callAnyKey).V r = s.V r := rfl

/-! ### Reading V[i] after a write of V[j] (R14) -/

theorem State.setV_V (i j : Reg) (v : Byte) : (s.setV i v).V j = if i = j then v else s.V j := by
  simp only [State.V, State.setV, Vector.getElem_set]
  by_cases h : i = j
  · simp [h]
  · have hne : i.toNat ≠ j.toNat := fun e => h (BitVec.eq_of_toNat_eq e)
    simp [h, hne]

@[simp] theorem State.setV_V_self (i : Reg) (v : Byte) : (s.setV i v).V i = v := by simp [State.setV_V]

theorem State.setV_V_of_ne {i j : Reg} (h : j ≠ i) (v : Byte) : (s.setV i v).V j = s.V j := by
  simp [State.setV_V, Ne.symm h]

theorem State.setFlag_V (j : Reg) (v : Byte) : (s.setFlag v).V j = if j = 0xF#4 then v else s.V j := by
  rw [State.setFlag, State.setV_V]
  by_cases h : j = 0xF#4
  · simp [h]
  · simp [h, Ne.symm h]

/-! ### Skips (R110) -/

@[simp] theorem State.skipIf_memory (c : Bool) : (s.skipIf c).memory = s.memory := by cases c <;> rfl
@[simp] theorem State.skipIf_registers (c : Bool) : (s.skipIf c).registers = s.registers := by cases c <;> rfl
@[simp] theorem State.skipIf_addressRegister (c : Bool) : (s.skipIf c).addressRegister = s.addressRegister := by cases c <;> rfl
@[simp] theorem State.skipIf_stack (c : Bool) : (s.skipIf c).stack = s.stack := by cases c <;> rfl
@[simp] theorem State.skipIf_delayTimer (c : Bool) : (s.skipIf c).delayTimer = s.delayTimer := by cases c <;> rfl
@[simp] theorem State.skipIf_soundTimer (c : Bool) : (s.skipIf c).soundTimer = s.soundTimer := by cases c <;> rfl
@[simp] theorem State.skipIf_timerScaler (c : Bool) : (s.skipIf c).timerScaler = s.timerScaler := by cases c <;> rfl
@[simp] theorem State.skipIf_timerBits (c : Bool) : (s.skipIf c).timerBits = s.timerBits := by cases c <;> rfl
@[simp] theorem State.skipIf_stackLimit (c : Bool) : (s.skipIf c).stackLimit = s.stackLimit := by cases c <;> rfl
@[simp] theorem State.skipIf_skipKeyIndex (c : Bool) : (s.skipIf c).skipKeyIndex = s.skipKeyIndex := by cases c <;> rfl
@[simp] theorem State.skipIf_report (c : Bool) : (s.skipIf c).report = s.report := by cases c <;> rfl
@[simp] theorem State.skipIf_calls (c : Bool) : (s.skipIf c).calls = s.calls := by cases c <;> rfl
@[simp] theorem State.skipIf_randomInputs (c : Bool) : (s.skipIf c).randomInputs = s.randomInputs := by cases c <;> rfl
@[simp] theorem State.skipIf_flipInputs (c : Bool) : (s.skipIf c).flipInputs = s.flipInputs := by cases c <;> rfl
@[simp] theorem State.skipIf_pressedInputs (c : Bool) : (s.skipIf c).pressedInputs = s.pressedInputs := by cases c <;> rfl
@[simp] theorem State.skipIf_anyKeyInputs (c : Bool) : (s.skipIf c).anyKeyInputs = s.anyKeyInputs := by cases c <;> rfl
@[simp] theorem State.skipIf_draws (c : Bool) : (s.skipIf c).draws = s.draws := by cases c <;> rfl
@[simp] theorem State.skipIf_V (c : Bool) (r : Reg) : (s.skipIf c).V r = s.V r := by cases c <;> rfl
@[simp] theorem State.skipIf_programCounter (c : Bool) :
    (s.skipIf c).programCounter = s.programCounter + (if c then 4 else 2) := by cases c <;> rfl

end Sys2Proof.Machine
end

