-- ==== Sys2Proof/Laws/Ops.lean ====
section
/-!
SUPPORT. What each shared operation can do, said once: how an instruction ends, the range check, the block transfer of
registers, the flips of a sprite. Later proofs cite these and do not unfold the operations.
-/

namespace Sys2Proof.Machine

/-! ### How an instruction ends -/

@[simp] theorem complete_eq_next {s t : State} : complete s = .next t ↔ t = s.setReport .executed := by
  simp [complete, eq_comm]

@[simp] theorem complete_ne_fault {s : State} {f : Fault} : complete s ≠ .fault f := by simp [complete]

@[simp] theorem complete_ne_refused {s : State} {r : Refusal} : complete s ≠ .refused r := by simp [complete]

@[simp] theorem raise_ne_next {f : Fault} {t : State} : raise f ≠ .next t := by simp [raise]

@[simp] theorem raise_eq_fault {f g : Fault} : raise f = .fault g ↔ f = g := by simp [raise]

@[simp] theorem raise_ne_refused {f : Fault} {r : Refusal} : raise f ≠ .refused r := by simp [raise]

/-! ### The width of the timers (R10, R34) -/

theorem timerBitsWellFormed_iff {scaler bits : Nat} :
    timerBitsWellFormed scaler bits = true ↔ 255 * scaler < 2 ^ bits ∧ (scaler = 1 → bits = 8) := by
  simp only [timerBitsWellFormed, Bool.and_eq_true, decide_eq_true_eq]

/-- Every value of a register, in ticks, is at most 255·S. -/
theorem State.toTicks_le (s : State) (v : Byte) : s.toTicks v ≤ 255 * s.timerScaler :=
  Nat.mul_le_mul_right _ (by have := v.isLt; omega)

/-- Whatever is written, the timer's width holds what it becomes. -/
theorem State.heldTicks_lt (s : State) (n : Nat) : s.heldTicks n < 2 ^ s.timerBits := by
  unfold State.heldTicks
  split
  · assumption
  · exact BitVec.isLt _

/-- A legal width holds what FX15 and FX18 write. -/
theorem State.heldTicks_toTicks {s : State} (h : timerBitsWellFormed s.timerScaler s.timerBits = true) (v : Byte) :
    s.heldTicks (s.toTicks v) = s.toTicks v :=
  if_pos (Nat.lt_of_le_of_lt (s.toTicks_le v) (timerBitsWellFormed_iff.mp h).1)

theorem Config.coreTimerBits_wellFormed (scaler : Nat) : timerBitsWellFormed scaler (Config.coreTimerBits scaler) = true := by
  rw [timerBitsWellFormed_iff]
  unfold Config.coreTimerBits leastTimerBits
  split
  · subst_vars; decide
  · next h =>
    exact ⟨Nat.lt_of_lt_of_le Nat.lt_log2_self (Nat.pow_le_pow_right (by decide) (Nat.le_add_right _ _)), fun e => absurd e h⟩

/-- The configuration behind `State.reset` is legal, whatever its free values are. -/
theorem Config.core_wellFormed : Config.core.wellFormed = true := by
  simp [Config.wellFormed, Config.core, Config.coreTimerBits_wellFormed]

/-! ### The range check (R45, R186) -/

theorem State.spanFault_none {s : State} {n : Nat} :
    s.spanFault n = none ↔ n = 0 ∨ s.addressRegister.toNat + n ≤ 4096 := by
  unfold State.spanFault
  split
  · simp; omega
  · simp; omega

theorem State.spanFault_some {s : State} {n : Nat} {f : Fault} :
    s.spanFault n = some f ↔
      0 < n ∧ 4096 < s.addressRegister.toNat + n ∧ f = .memoryOutOfRange (max s.addressRegister.toNat 4096) := by
  unfold State.spanFault
  split
  · simp only [Option.some.injEq]
    constructor
    · rintro rfl; exact ⟨by omega, by omega, rfl⟩
    · rintro ⟨-, -, rfl⟩; rfl
  · simp; omega

theorem withSpan_eq_next {s e t : State} {n : Nat} :
    withSpan s n e = .next t ↔
      (n = 0 ∨ s.addressRegister.toNat + n ≤ 4096) ∧ t = e.setReport .executed := by
  unfold withSpan
  rw [← State.spanFault_none]
  split <;> simp_all

theorem withSpan_eq_fault {s e : State} {n : Nat} {f : Fault} :
    withSpan s n e = .fault f ↔
      0 < n ∧ 4096 < s.addressRegister.toNat + n ∧ f = .memoryOutOfRange (max s.addressRegister.toNat 4096) := by
  unfold withSpan
  rw [← State.spanFault_some]
  split <;> simp_all

@[simp] theorem withSpan_ne_refused {s e : State} {n : Nat} {r : Refusal} : withSpan s n e ≠ .refused r := by
  unfold withSpan
  split <;> simp

/-! ### The stack (R33) -/

theorem State.stackFull_iff {s : State} : s.stackFull = true ↔ s.stackLimit = some s.stack.length := by
  unfold State.stackFull
  split <;> simp_all [eq_comm]

/-! ### The block of registers (R145, R146) -/

@[simp] theorem State.block_length (s : State) (x : Reg) : (s.block x).length = x.toNat + 1 := by
  have := x.isLt
  simp [State.block]
  omega

theorem State.block_getElem (s : State) (x : Reg) (k : Nat) (hk : k < (s.block x).length) :
    (s.block x)[k] = s.V (BitVec.ofNat 4 k) := by
  have h : k < 16 := by
    have := x.isLt
    simp at hk
    omega
  simp [State.block, State.V, Nat.mod_eq_of_lt h]

theorem State.loadV_frame (bytes : List Byte) (s : State) (k : Nat) :
    s.loadV k bytes = { s with registers := (s.loadV k bytes).registers } := by
  induction bytes generalizing s k with
  | nil => rfl
  | cons b bs ih => exact ih (s.setV (BitVec.ofNat 4 k) b) (k + 1)

/-- Loading a list of bytes from V[k] up writes exactly those registers. -/
theorem State.loadV_V (bytes : List Byte) (s : State) (k : Nat) (r : Reg) (hk : k + bytes.length ≤ 16) :
    (s.loadV k bytes).V r =
      if h : k ≤ r.toNat ∧ r.toNat < k + bytes.length then bytes[r.toNat - k]'(by omega) else s.V r := by
  induction bytes generalizing s k with
  | nil =>
    rw [dif_neg (by rw [List.length_nil]; omega)]
    rfl
  | cons b bs ih =>
    simp only [List.length_cons] at hk
    simp only [State.loadV]
    rw [ih _ _ (by omega), State.setV_V]
    have hkr : (BitVec.ofNat 4 k = r) ↔ k = r.toNat := by
      constructor
      · rintro rfl
        rw [BitVec.toNat_ofNat]
        omega
      · intro h; apply BitVec.eq_of_toNat_eq; simp; omega
    by_cases h1 : k = r.toNat
    · subst h1; simp
    · by_cases h2 : k + 1 ≤ r.toNat ∧ r.toNat < k + 1 + bs.length
      · rw [dif_pos h2, dif_pos (by simp; omega)]
        have : r.toNat - k = (r.toNat - (k + 1)) + 1 := by omega
        simp [this]
      · rw [dif_neg h2, if_neg (by rw [hkr]; exact h1), dif_neg (by simp; omega)]

/-! ### The flips of a sprite (R152, R153) -/

/-- The j-th answer the display gives from this state on. -/
def State.flipAnswerAt (s : State) (j : Nat) : Bool := (s.flipInputs[j]?).getD (Config.freeFlip (s.draws + j))

/-- The answers to `n` flips. -/
def State.flipAnswers (s : State) (n : Nat) : List Bool := (List.range n).map s.flipAnswerAt

theorem State.flipAnswerAt_zero (s : State) : s.flipAnswerAt 0 = s.flipAnswer := by
  simp [State.flipAnswerAt, State.flipAnswer, List.head?_eq_getElem?]

theorem State.flipAnswerAt_callFlip (s : State) (x y j : Nat) :
    (s.callFlip x y).flipAnswerAt j = s.flipAnswerAt (j + 1) := by
  simp [State.flipAnswerAt, Nat.add_assoc, Nat.add_comm 1 j]

theorem State.flipAnswers_succ (s : State) (x y n : Nat) :
    s.flipAnswers (n + 1) = s.flipAnswer :: (s.callFlip x y).flipAnswers n := by
  simp [State.flipAnswers, List.range_succ_eq_map, State.flipAnswerAt_zero, Function.comp_def,
    State.flipAnswerAt_callFlip]

/-- Everything the flips of a list of pixels do: one call a pixel in order, one answer taken a call. -/
theorem State.flipAll_state (pixels : List (Nat × Nat)) (s : State) :
    (s.flipAll pixels).2 =
      { s with
        calls := s.calls ++ List.zipWith (fun p on => Call.flip p.1 p.2 on) pixels (s.flipAnswers pixels.length)
        flipInputs := s.flipInputs.drop pixels.length
        draws := s.draws + pixels.length } := by
  induction pixels generalizing s with
  | nil => simp [State.flipAll]
  | cons p ps ih =>
    obtain ⟨x, y⟩ := p
    simp only [State.flipAll, ih, List.length_cons, State.flipAnswers_succ s x y]
    simp [State.callFlip, Nat.add_assoc, Nat.add_comm 1]

/-- The collision: some answer was off (R155). -/
theorem State.flipAll_collided (pixels : List (Nat × Nat)) (s : State) :
    (s.flipAll pixels).1 = true ↔ false ∈ s.flipAnswers pixels.length := by
  induction pixels generalizing s with
  | nil => simp [State.flipAll, State.flipAnswers]
  | cons p ps ih =>
    obtain ⟨x, y⟩ := p
    simp only [State.flipAll, List.length_cons, State.flipAnswers_succ s x y, Bool.or_eq_true, ih,
      List.mem_cons]
    cases s.flipAnswer <;> simp

/-- The pixels of a sprite, row by row (R153). -/
theorem spritePixels_eq (rows : List Byte) (x0 y0 : Nat) :
    spritePixels x0 y0 rows =
      (List.range rows.length).flatMap fun r =>
        (setColumns (rows.getD r 0)).map fun col => (x0 + col, y0 + r) := by
  induction rows generalizing y0 with
  | nil => rfl
  | cons b bs ih =>
    simp only [spritePixels, ih, List.length_cons, List.range_succ_eq_map, List.flatMap_cons, List.flatMap_map]
    simp [Nat.add_assoc, Nat.add_comm 1]

/-! ### What the compound operations leave as it is -/

@[simp] theorem State.loadV_memory (s : State) (k : Nat) (bytes : List Byte) :
    (s.loadV k bytes).memory = s.memory := by rw [State.loadV_frame]
@[simp] theorem State.loadV_addressRegister (s : State) (k : Nat) (bytes : List Byte) :
    (s.loadV k bytes).addressRegister = s.addressRegister := by rw [State.loadV_frame]
@[simp] theorem State.loadV_programCounter (s : State) (k : Nat) (bytes : List Byte) :
    (s.loadV k bytes).programCounter = s.programCounter := by rw [State.loadV_frame]
@[simp] theorem State.loadV_stack (s : State) (k : Nat) (bytes : List Byte) :
    (s.loadV k bytes).stack = s.stack := by rw [State.loadV_frame]
@[simp] theorem State.loadV_delayTimer (s : State) (k : Nat) (bytes : List Byte) :
    (s.loadV k bytes).delayTimer = s.delayTimer := by rw [State.loadV_frame]
@[simp] theorem State.loadV_soundTimer (s : State) (k : Nat) (bytes : List Byte) :
    (s.loadV k bytes).soundTimer = s.soundTimer := by rw [State.loadV_frame]
@[simp] theorem State.loadV_timerScaler (s : State) (k : Nat) (bytes : List Byte) :
    (s.loadV k bytes).timerScaler = s.timerScaler := by rw [State.loadV_frame]
@[simp] theorem State.loadV_timerBits (s : State) (k : Nat) (bytes : List Byte) :
    (s.loadV k bytes).timerBits = s.timerBits := by rw [State.loadV_frame]
@[simp] theorem State.loadV_stackLimit (s : State) (k : Nat) (bytes : List Byte) :
    (s.loadV k bytes).stackLimit = s.stackLimit := by rw [State.loadV_frame]
@[simp] theorem State.loadV_skipKeyIndex (s : State) (k : Nat) (bytes : List Byte) :
    (s.loadV k bytes).skipKeyIndex = s.skipKeyIndex := by rw [State.loadV_frame]
@[simp] theorem State.loadV_report (s : State) (k : Nat) (bytes : List Byte) :
    (s.loadV k bytes).report = s.report := by rw [State.loadV_frame]
@[simp] theorem State.loadV_calls (s : State) (k : Nat) (bytes : List Byte) :
    (s.loadV k bytes).calls = s.calls := by rw [State.loadV_frame]
@[simp] theorem State.loadV_randomInputs (s : State) (k : Nat) (bytes : List Byte) :
    (s.loadV k bytes).randomInputs = s.randomInputs := by rw [State.loadV_frame]
@[simp] theorem State.loadV_flipInputs (s : State) (k : Nat) (bytes : List Byte) :
    (s.loadV k bytes).flipInputs = s.flipInputs := by rw [State.loadV_frame]
@[simp] theorem State.loadV_pressedInputs (s : State) (k : Nat) (bytes : List Byte) :
    (s.loadV k bytes).pressedInputs = s.pressedInputs := by rw [State.loadV_frame]
@[simp] theorem State.loadV_anyKeyInputs (s : State) (k : Nat) (bytes : List Byte) :
    (s.loadV k bytes).anyKeyInputs = s.anyKeyInputs := by rw [State.loadV_frame]
@[simp] theorem State.loadV_draws (s : State) (k : Nat) (bytes : List Byte) :
    (s.loadV k bytes).draws = s.draws := by rw [State.loadV_frame]

@[simp] theorem State.flipAll_memory (s : State) (pixels : List (Nat × Nat)) :
    (s.flipAll pixels).2.memory = s.memory := by rw [State.flipAll_state]
@[simp] theorem State.flipAll_registers (s : State) (pixels : List (Nat × Nat)) :
    (s.flipAll pixels).2.registers = s.registers := by rw [State.flipAll_state]
@[simp] theorem State.flipAll_addressRegister (s : State) (pixels : List (Nat × Nat)) :
    (s.flipAll pixels).2.addressRegister = s.addressRegister := by rw [State.flipAll_state]
@[simp] theorem State.flipAll_programCounter (s : State) (pixels : List (Nat × Nat)) :
    (s.flipAll pixels).2.programCounter = s.programCounter := by rw [State.flipAll_state]
@[simp] theorem State.flipAll_stack (s : State) (pixels : List (Nat × Nat)) :
    (s.flipAll pixels).2.stack = s.stack := by rw [State.flipAll_state]
@[simp] theorem State.flipAll_delayTimer (s : State) (pixels : List (Nat × Nat)) :
    (s.flipAll pixels).2.delayTimer = s.delayTimer := by rw [State.flipAll_state]
@[simp] theorem State.flipAll_soundTimer (s : State) (pixels : List (Nat × Nat)) :
    (s.flipAll pixels).2.soundTimer = s.soundTimer := by rw [State.flipAll_state]
@[simp] theorem State.flipAll_timerScaler (s : State) (pixels : List (Nat × Nat)) :
    (s.flipAll pixels).2.timerScaler = s.timerScaler := by rw [State.flipAll_state]
@[simp] theorem State.flipAll_timerBits (s : State) (pixels : List (Nat × Nat)) :
    (s.flipAll pixels).2.timerBits = s.timerBits := by rw [State.flipAll_state]
@[simp] theorem State.flipAll_stackLimit (s : State) (pixels : List (Nat × Nat)) :
    (s.flipAll pixels).2.stackLimit = s.stackLimit := by rw [State.flipAll_state]
@[simp] theorem State.flipAll_skipKeyIndex (s : State) (pixels : List (Nat × Nat)) :
    (s.flipAll pixels).2.skipKeyIndex = s.skipKeyIndex := by rw [State.flipAll_state]
@[simp] theorem State.flipAll_report (s : State) (pixels : List (Nat × Nat)) :
    (s.flipAll pixels).2.report = s.report := by rw [State.flipAll_state]
@[simp] theorem State.flipAll_randomInputs (s : State) (pixels : List (Nat × Nat)) :
    (s.flipAll pixels).2.randomInputs = s.randomInputs := by rw [State.flipAll_state]
@[simp] theorem State.flipAll_pressedInputs (s : State) (pixels : List (Nat × Nat)) :
    (s.flipAll pixels).2.pressedInputs = s.pressedInputs := by rw [State.flipAll_state]
@[simp] theorem State.flipAll_anyKeyInputs (s : State) (pixels : List (Nat × Nat)) :
    (s.flipAll pixels).2.anyKeyInputs = s.anyKeyInputs := by rw [State.flipAll_state]
@[simp] theorem State.flipAll_V (s : State) (pixels : List (Nat × Nat)) (r : Reg) :
    (s.flipAll pixels).2.V r = s.V r := by rw [State.flipAll_state]; rfl

@[simp] theorem State.askKey_memory (s : State) (k : Option Key) : (s.askKey k).2.memory = s.memory := by
  cases k <;> rfl
@[simp] theorem State.askKey_registers (s : State) (k : Option Key) : (s.askKey k).2.registers = s.registers := by
  cases k <;> rfl
@[simp] theorem State.askKey_addressRegister (s : State) (k : Option Key) : (s.askKey k).2.addressRegister = s.addressRegister := by
  cases k <;> rfl
@[simp] theorem State.askKey_programCounter (s : State) (k : Option Key) : (s.askKey k).2.programCounter = s.programCounter := by
  cases k <;> rfl
@[simp] theorem State.askKey_stack (s : State) (k : Option Key) : (s.askKey k).2.stack = s.stack := by
  cases k <;> rfl
@[simp] theorem State.askKey_delayTimer (s : State) (k : Option Key) : (s.askKey k).2.delayTimer = s.delayTimer := by
  cases k <;> rfl
@[simp] theorem State.askKey_soundTimer (s : State) (k : Option Key) : (s.askKey k).2.soundTimer = s.soundTimer := by
  cases k <;> rfl
@[simp] theorem State.askKey_timerScaler (s : State) (k : Option Key) : (s.askKey k).2.timerScaler = s.timerScaler := by
  cases k <;> rfl
@[simp] theorem State.askKey_timerBits (s : State) (k : Option Key) : (s.askKey k).2.timerBits = s.timerBits := by
  cases k <;> rfl
@[simp] theorem State.askKey_stackLimit (s : State) (k : Option Key) : (s.askKey k).2.stackLimit = s.stackLimit := by
  cases k <;> rfl
@[simp] theorem State.askKey_skipKeyIndex (s : State) (k : Option Key) : (s.askKey k).2.skipKeyIndex = s.skipKeyIndex := by
  cases k <;> rfl
@[simp] theorem State.askKey_report (s : State) (k : Option Key) : (s.askKey k).2.report = s.report := by
  cases k <;> rfl
@[simp] theorem State.askKey_randomInputs (s : State) (k : Option Key) : (s.askKey k).2.randomInputs = s.randomInputs := by
  cases k <;> rfl
@[simp] theorem State.askKey_flipInputs (s : State) (k : Option Key) : (s.askKey k).2.flipInputs = s.flipInputs := by
  cases k <;> rfl
@[simp] theorem State.askKey_anyKeyInputs (s : State) (k : Option Key) : (s.askKey k).2.anyKeyInputs = s.anyKeyInputs := by
  cases k <;> rfl
@[simp] theorem State.askKey_V (s : State) (k : Option Key) (r : Reg) : (s.askKey k).2.V r = s.V r := by
  cases k <;> rfl

@[simp] theorem State.afterKey_memory (s : State) (x : Reg) (k : Option Key) : (s.afterKey x k).memory = s.memory := by
  cases k <;> rfl
@[simp] theorem State.afterKey_addressRegister (s : State) (x : Reg) (k : Option Key) : (s.afterKey x k).addressRegister = s.addressRegister := by
  cases k <;> rfl
@[simp] theorem State.afterKey_stack (s : State) (x : Reg) (k : Option Key) : (s.afterKey x k).stack = s.stack := by
  cases k <;> rfl
@[simp] theorem State.afterKey_delayTimer (s : State) (x : Reg) (k : Option Key) : (s.afterKey x k).delayTimer = s.delayTimer := by
  cases k <;> rfl
@[simp] theorem State.afterKey_soundTimer (s : State) (x : Reg) (k : Option Key) : (s.afterKey x k).soundTimer = s.soundTimer := by
  cases k <;> rfl
@[simp] theorem State.afterKey_timerScaler (s : State) (x : Reg) (k : Option Key) : (s.afterKey x k).timerScaler = s.timerScaler := by
  cases k <;> rfl
@[simp] theorem State.afterKey_timerBits (s : State) (x : Reg) (k : Option Key) : (s.afterKey x k).timerBits = s.timerBits := by
  cases k <;> rfl
@[simp] theorem State.afterKey_stackLimit (s : State) (x : Reg) (k : Option Key) : (s.afterKey x k).stackLimit = s.stackLimit := by
  cases k <;> rfl
@[simp] theorem State.afterKey_skipKeyIndex (s : State) (x : Reg) (k : Option Key) : (s.afterKey x k).skipKeyIndex = s.skipKeyIndex := by
  cases k <;> rfl
@[simp] theorem State.afterKey_randomInputs (s : State) (x : Reg) (k : Option Key) : (s.afterKey x k).randomInputs = s.randomInputs := by
  cases k <;> rfl
@[simp] theorem State.afterKey_flipInputs (s : State) (x : Reg) (k : Option Key) : (s.afterKey x k).flipInputs = s.flipInputs := by
  cases k <;> rfl
@[simp] theorem State.afterKey_pressedInputs (s : State) (x : Reg) (k : Option Key) : (s.afterKey x k).pressedInputs = s.pressedInputs := by
  cases k <;> rfl
@[simp] theorem State.afterKey_calls (s : State) (x : Reg) (k : Option Key) :
    (s.afterKey x k).calls = s.calls ++ [.anyKey s.anyKeyAnswer] := by cases k <;> rfl
@[simp] theorem State.afterKey_anyKeyInputs (s : State) (x : Reg) (k : Option Key) :
    (s.afterKey x k).anyKeyInputs = s.anyKeyInputs.tail := by cases k <;> rfl
@[simp] theorem State.afterKey_draws (s : State) (x : Reg) (k : Option Key) :
    (s.afterKey x k).draws = s.draws + 1 := by cases k <;> rfl

@[simp] theorem State.endCycle_memory (s : State) : s.endCycle.memory = s.memory := by
  unfold State.endCycle; split <;> rfl
@[simp] theorem State.endCycle_registers (s : State) : s.endCycle.registers = s.registers := by
  unfold State.endCycle; split <;> rfl
@[simp] theorem State.endCycle_addressRegister (s : State) : s.endCycle.addressRegister = s.addressRegister := by
  unfold State.endCycle; split <;> rfl
@[simp] theorem State.endCycle_programCounter (s : State) : s.endCycle.programCounter = s.programCounter := by
  unfold State.endCycle; split <;> rfl
@[simp] theorem State.endCycle_stack (s : State) : s.endCycle.stack = s.stack := by
  unfold State.endCycle; split <;> rfl
@[simp] theorem State.endCycle_timerScaler (s : State) : s.endCycle.timerScaler = s.timerScaler := by
  unfold State.endCycle; split <;> rfl
@[simp] theorem State.endCycle_timerBits (s : State) : s.endCycle.timerBits = s.timerBits := by
  unfold State.endCycle; split <;> rfl
@[simp] theorem State.endCycle_stackLimit (s : State) : s.endCycle.stackLimit = s.stackLimit := by
  unfold State.endCycle; split <;> rfl
@[simp] theorem State.endCycle_skipKeyIndex (s : State) : s.endCycle.skipKeyIndex = s.skipKeyIndex := by
  unfold State.endCycle; split <;> rfl
@[simp] theorem State.endCycle_report (s : State) : s.endCycle.report = s.report := by
  unfold State.endCycle; split <;> rfl
@[simp] theorem State.endCycle_calls (s : State) : s.endCycle.calls = s.calls := by
  unfold State.endCycle; split <;> rfl
@[simp] theorem State.endCycle_randomInputs (s : State) : s.endCycle.randomInputs = s.randomInputs := by
  unfold State.endCycle; split <;> rfl
@[simp] theorem State.endCycle_flipInputs (s : State) : s.endCycle.flipInputs = s.flipInputs := by
  unfold State.endCycle; split <;> rfl
@[simp] theorem State.endCycle_pressedInputs (s : State) : s.endCycle.pressedInputs = s.pressedInputs := by
  unfold State.endCycle; split <;> rfl
@[simp] theorem State.endCycle_anyKeyInputs (s : State) : s.endCycle.anyKeyInputs = s.anyKeyInputs := by
  unfold State.endCycle; split <;> rfl
@[simp] theorem State.endCycle_draws (s : State) : s.endCycle.draws = s.draws := by
  unfold State.endCycle; split <;> rfl
@[simp] theorem State.endCycle_V (s : State) (r : Reg) : s.endCycle.V r = s.V r := by
  unfold State.endCycle; split <;> rfl

end Sys2Proof.Machine
end

