-- ==== Sys2Proof/Laws/PerInstr.lean ====
section
/-!
SUPPORT. Statements made of every instruction, one lemma per constructor. `MatchesRow`: the opcode an instruction
encodes to matches the row of the opcode table that bears its name (spec/30_encoding.md R77).
-/

namespace Sys2Proof.Laws

/-- The instruction's opcode, under its row's mask, is its row's pattern (R77). -/
def MatchesRow.Statement (i : Instr) : Prop :=
  ∃ r ∈ opcodeTable, r.mnemonic = i.mnemonic ∧ r.matchesOp (encode i) = true

theorem matches_by_nibble {op : Word} {name : String} {g : BitVec 4} {p : Word}
    (hg : (decodeFields op).instruction = g) (hp : g.setWidth 16 <<< 12 = p) :
    OpcodeRow.matchesOp ⟨name, p, 0xF000⟩ op = true := by
  simp only [OpcodeRow.matchesOp, and_F000, hg, hp, beq_self_eq_true]

theorem matches_by_n {op : Word} {name : String} {g n : BitVec 4} {p : Word}
    (hg : (decodeFields op).instruction = g) (hn : (decodeFields op).n = n)
    (hp : (g.setWidth 16 <<< 12) ||| n.setWidth 16 = p) : OpcodeRow.matchesOp ⟨name, p, 0xF00F⟩ op = true := by
  simp only [OpcodeRow.matchesOp, and_F00F, hg, hn, hp, beq_self_eq_true]

theorem matches_by_nn {op : Word} {name : String} {g : BitVec 4} {nn : Byte} {p : Word}
    (hg : (decodeFields op).instruction = g) (hn : (decodeFields op).nn = nn)
    (hp : (g.setWidth 16 <<< 12) ||| nn.setWidth 16 = p) : OpcodeRow.matchesOp ⟨name, p, 0xF0FF⟩ op = true := by
  simp only [OpcodeRow.matchesOp, and_F0FF, hg, hn, hp, beq_self_eq_true]

theorem MatchesRow.op00E0 : MatchesRow.Statement .op00E0 :=
  ⟨⟨"00E0", 0x00E0, 0xFFFF⟩, by simp [opcodeTable, opcodeRowsByNibble, opcodeRowsGroup8, opcodeRowsGroupsEF], rfl,
    rfl⟩

theorem MatchesRow.op00EE : MatchesRow.Statement .op00EE :=
  ⟨⟨"00EE", 0x00EE, 0xFFFF⟩, by simp [opcodeTable, opcodeRowsByNibble, opcodeRowsGroup8, opcodeRowsGroupsEF], rfl,
    rfl⟩

theorem MatchesRow.op1NNN (nnn : Addr12) : MatchesRow.Statement (.op1NNN nnn) :=
  ⟨⟨"1NNN", 0x1000, 0xF000⟩, by simp [opcodeTable, opcodeRowsByNibble, opcodeRowsGroup8, opcodeRowsGroupsEF], rfl,
    matches_by_nibble (g := 0x1) (congrArg Fields.instruction (decodeFields_packNNN _ _)) (by decide)⟩

theorem MatchesRow.op2NNN (nnn : Addr12) : MatchesRow.Statement (.op2NNN nnn) :=
  ⟨⟨"2NNN", 0x2000, 0xF000⟩, by simp [opcodeTable, opcodeRowsByNibble, opcodeRowsGroup8, opcodeRowsGroupsEF], rfl,
    matches_by_nibble (g := 0x2) (congrArg Fields.instruction (decodeFields_packNNN _ _)) (by decide)⟩

theorem MatchesRow.op3XNN (x : Reg) (nn : Byte) : MatchesRow.Statement (.op3XNN x nn) :=
  ⟨⟨"3XNN", 0x3000, 0xF000⟩, by simp [opcodeTable, opcodeRowsByNibble, opcodeRowsGroup8, opcodeRowsGroupsEF], rfl,
    matches_by_nibble (g := 0x3) (congrArg Fields.instruction (decodeFields_packXNN _ _ _)) (by decide)⟩

theorem MatchesRow.op4XNN (x : Reg) (nn : Byte) : MatchesRow.Statement (.op4XNN x nn) :=
  ⟨⟨"4XNN", 0x4000, 0xF000⟩, by simp [opcodeTable, opcodeRowsByNibble, opcodeRowsGroup8, opcodeRowsGroupsEF], rfl,
    matches_by_nibble (g := 0x4) (congrArg Fields.instruction (decodeFields_packXNN _ _ _)) (by decide)⟩

theorem MatchesRow.op5XY0 (x : Reg) (y : Reg) (n : BitVec 4) : MatchesRow.Statement (.op5XY0 x y n) :=
  ⟨⟨"5XY0", 0x5000, 0xF000⟩, by simp [opcodeTable, opcodeRowsByNibble, opcodeRowsGroup8, opcodeRowsGroupsEF], rfl,
    matches_by_nibble (g := 0x5) (congrArg Fields.instruction (decodeFields_packXYN _ _ _ _)) (by decide)⟩

theorem MatchesRow.op6XNN (x : Reg) (nn : Byte) : MatchesRow.Statement (.op6XNN x nn) :=
  ⟨⟨"6XNN", 0x6000, 0xF000⟩, by simp [opcodeTable, opcodeRowsByNibble, opcodeRowsGroup8, opcodeRowsGroupsEF], rfl,
    matches_by_nibble (g := 0x6) (congrArg Fields.instruction (decodeFields_packXNN _ _ _)) (by decide)⟩

theorem MatchesRow.op7XNN (x : Reg) (nn : Byte) : MatchesRow.Statement (.op7XNN x nn) :=
  ⟨⟨"7XNN", 0x7000, 0xF000⟩, by simp [opcodeTable, opcodeRowsByNibble, opcodeRowsGroup8, opcodeRowsGroupsEF], rfl,
    matches_by_nibble (g := 0x7) (congrArg Fields.instruction (decodeFields_packXNN _ _ _)) (by decide)⟩

theorem MatchesRow.op8XY0 (x : Reg) (y : Reg) : MatchesRow.Statement (.op8XY0 x y) :=
  ⟨⟨"8XY0", 0x8000, 0xF00F⟩, by simp [opcodeTable, opcodeRowsByNibble, opcodeRowsGroup8, opcodeRowsGroupsEF], rfl,
    matches_by_n (g := 0x8) (n := 0x0) (congrArg Fields.instruction (decodeFields_packXYN _ _ _ _)) (congrArg Fields.n (decodeFields_packXYN _ _ _ _)) (by decide)⟩

theorem MatchesRow.op8XY1 (x : Reg) (y : Reg) : MatchesRow.Statement (.op8XY1 x y) :=
  ⟨⟨"8XY1", 0x8001, 0xF00F⟩, by simp [opcodeTable, opcodeRowsByNibble, opcodeRowsGroup8, opcodeRowsGroupsEF], rfl,
    matches_by_n (g := 0x8) (n := 0x1) (congrArg Fields.instruction (decodeFields_packXYN _ _ _ _)) (congrArg Fields.n (decodeFields_packXYN _ _ _ _)) (by decide)⟩

theorem MatchesRow.op8XY2 (x : Reg) (y : Reg) : MatchesRow.Statement (.op8XY2 x y) :=
  ⟨⟨"8XY2", 0x8002, 0xF00F⟩, by simp [opcodeTable, opcodeRowsByNibble, opcodeRowsGroup8, opcodeRowsGroupsEF], rfl,
    matches_by_n (g := 0x8) (n := 0x2) (congrArg Fields.instruction (decodeFields_packXYN _ _ _ _)) (congrArg Fields.n (decodeFields_packXYN _ _ _ _)) (by decide)⟩

theorem MatchesRow.op8XY3 (x : Reg) (y : Reg) : MatchesRow.Statement (.op8XY3 x y) :=
  ⟨⟨"8XY3", 0x8003, 0xF00F⟩, by simp [opcodeTable, opcodeRowsByNibble, opcodeRowsGroup8, opcodeRowsGroupsEF], rfl,
    matches_by_n (g := 0x8) (n := 0x3) (congrArg Fields.instruction (decodeFields_packXYN _ _ _ _)) (congrArg Fields.n (decodeFields_packXYN _ _ _ _)) (by decide)⟩

theorem MatchesRow.op8XY4 (x : Reg) (y : Reg) : MatchesRow.Statement (.op8XY4 x y) :=
  ⟨⟨"8XY4", 0x8004, 0xF00F⟩, by simp [opcodeTable, opcodeRowsByNibble, opcodeRowsGroup8, opcodeRowsGroupsEF], rfl,
    matches_by_n (g := 0x8) (n := 0x4) (congrArg Fields.instruction (decodeFields_packXYN _ _ _ _)) (congrArg Fields.n (decodeFields_packXYN _ _ _ _)) (by decide)⟩

theorem MatchesRow.op8XY5 (x : Reg) (y : Reg) : MatchesRow.Statement (.op8XY5 x y) :=
  ⟨⟨"8XY5", 0x8005, 0xF00F⟩, by simp [opcodeTable, opcodeRowsByNibble, opcodeRowsGroup8, opcodeRowsGroupsEF], rfl,
    matches_by_n (g := 0x8) (n := 0x5) (congrArg Fields.instruction (decodeFields_packXYN _ _ _ _)) (congrArg Fields.n (decodeFields_packXYN _ _ _ _)) (by decide)⟩

theorem MatchesRow.op8XY6 (x : Reg) (y : Reg) : MatchesRow.Statement (.op8XY6 x y) :=
  ⟨⟨"8XY6", 0x8006, 0xF00F⟩, by simp [opcodeTable, opcodeRowsByNibble, opcodeRowsGroup8, opcodeRowsGroupsEF], rfl,
    matches_by_n (g := 0x8) (n := 0x6) (congrArg Fields.instruction (decodeFields_packXYN _ _ _ _)) (congrArg Fields.n (decodeFields_packXYN _ _ _ _)) (by decide)⟩

theorem MatchesRow.op8XY7 (x : Reg) (y : Reg) : MatchesRow.Statement (.op8XY7 x y) :=
  ⟨⟨"8XY7", 0x8007, 0xF00F⟩, by simp [opcodeTable, opcodeRowsByNibble, opcodeRowsGroup8, opcodeRowsGroupsEF], rfl,
    matches_by_n (g := 0x8) (n := 0x7) (congrArg Fields.instruction (decodeFields_packXYN _ _ _ _)) (congrArg Fields.n (decodeFields_packXYN _ _ _ _)) (by decide)⟩

theorem MatchesRow.op8XYE (x : Reg) (y : Reg) : MatchesRow.Statement (.op8XYE x y) :=
  ⟨⟨"8XYE", 0x800E, 0xF00F⟩, by simp [opcodeTable, opcodeRowsByNibble, opcodeRowsGroup8, opcodeRowsGroupsEF], rfl,
    matches_by_n (g := 0x8) (n := 0xE) (congrArg Fields.instruction (decodeFields_packXYN _ _ _ _)) (congrArg Fields.n (decodeFields_packXYN _ _ _ _)) (by decide)⟩

theorem MatchesRow.op9XY0 (x : Reg) (y : Reg) (n : BitVec 4) : MatchesRow.Statement (.op9XY0 x y n) :=
  ⟨⟨"9XY0", 0x9000, 0xF000⟩, by simp [opcodeTable, opcodeRowsByNibble, opcodeRowsGroup8, opcodeRowsGroupsEF], rfl,
    matches_by_nibble (g := 0x9) (congrArg Fields.instruction (decodeFields_packXYN _ _ _ _)) (by decide)⟩

theorem MatchesRow.opANNN (nnn : Addr12) : MatchesRow.Statement (.opANNN nnn) :=
  ⟨⟨"ANNN", 0xA000, 0xF000⟩, by simp [opcodeTable, opcodeRowsByNibble, opcodeRowsGroup8, opcodeRowsGroupsEF], rfl,
    matches_by_nibble (g := 0xA) (congrArg Fields.instruction (decodeFields_packNNN _ _)) (by decide)⟩

theorem MatchesRow.opBNNN (nnn : Addr12) : MatchesRow.Statement (.opBNNN nnn) :=
  ⟨⟨"BNNN", 0xB000, 0xF000⟩, by simp [opcodeTable, opcodeRowsByNibble, opcodeRowsGroup8, opcodeRowsGroupsEF], rfl,
    matches_by_nibble (g := 0xB) (congrArg Fields.instruction (decodeFields_packNNN _ _)) (by decide)⟩

theorem MatchesRow.opCXNN (x : Reg) (nn : Byte) : MatchesRow.Statement (.opCXNN x nn) :=
  ⟨⟨"CXNN", 0xC000, 0xF000⟩, by simp [opcodeTable, opcodeRowsByNibble, opcodeRowsGroup8, opcodeRowsGroupsEF], rfl,
    matches_by_nibble (g := 0xC) (congrArg Fields.instruction (decodeFields_packXNN _ _ _)) (by decide)⟩

theorem MatchesRow.opDXYN (x : Reg) (y : Reg) (n : BitVec 4) : MatchesRow.Statement (.opDXYN x y n) :=
  ⟨⟨"DXYN", 0xD000, 0xF000⟩, by simp [opcodeTable, opcodeRowsByNibble, opcodeRowsGroup8, opcodeRowsGroupsEF], rfl,
    matches_by_nibble (g := 0xD) (congrArg Fields.instruction (decodeFields_packXYN _ _ _ _)) (by decide)⟩

theorem MatchesRow.opEX9E (x : Reg) : MatchesRow.Statement (.opEX9E x) :=
  ⟨⟨"EX9E", 0xE09E, 0xF0FF⟩, by simp [opcodeTable, opcodeRowsByNibble, opcodeRowsGroup8, opcodeRowsGroupsEF], rfl,
    matches_by_nn (g := 0xE) (nn := 0x9E) (congrArg Fields.instruction (decodeFields_packXNN _ _ _)) (congrArg Fields.nn (decodeFields_packXNN _ _ _)) (by decide)⟩

theorem MatchesRow.opEXA1 (x : Reg) : MatchesRow.Statement (.opEXA1 x) :=
  ⟨⟨"EXA1", 0xE0A1, 0xF0FF⟩, by simp [opcodeTable, opcodeRowsByNibble, opcodeRowsGroup8, opcodeRowsGroupsEF], rfl,
    matches_by_nn (g := 0xE) (nn := 0xA1) (congrArg Fields.instruction (decodeFields_packXNN _ _ _)) (congrArg Fields.nn (decodeFields_packXNN _ _ _)) (by decide)⟩

theorem MatchesRow.opFX07 (x : Reg) : MatchesRow.Statement (.opFX07 x) :=
  ⟨⟨"FX07", 0xF007, 0xF0FF⟩, by simp [opcodeTable, opcodeRowsByNibble, opcodeRowsGroup8, opcodeRowsGroupsEF], rfl,
    matches_by_nn (g := 0xF) (nn := 0x07) (congrArg Fields.instruction (decodeFields_packXNN _ _ _)) (congrArg Fields.nn (decodeFields_packXNN _ _ _)) (by decide)⟩

theorem MatchesRow.opFX0A (x : Reg) : MatchesRow.Statement (.opFX0A x) :=
  ⟨⟨"FX0A", 0xF00A, 0xF0FF⟩, by simp [opcodeTable, opcodeRowsByNibble, opcodeRowsGroup8, opcodeRowsGroupsEF], rfl,
    matches_by_nn (g := 0xF) (nn := 0x0A) (congrArg Fields.instruction (decodeFields_packXNN _ _ _)) (congrArg Fields.nn (decodeFields_packXNN _ _ _)) (by decide)⟩

theorem MatchesRow.opFX15 (x : Reg) : MatchesRow.Statement (.opFX15 x) :=
  ⟨⟨"FX15", 0xF015, 0xF0FF⟩, by simp [opcodeTable, opcodeRowsByNibble, opcodeRowsGroup8, opcodeRowsGroupsEF], rfl,
    matches_by_nn (g := 0xF) (nn := 0x15) (congrArg Fields.instruction (decodeFields_packXNN _ _ _)) (congrArg Fields.nn (decodeFields_packXNN _ _ _)) (by decide)⟩

theorem MatchesRow.opFX18 (x : Reg) : MatchesRow.Statement (.opFX18 x) :=
  ⟨⟨"FX18", 0xF018, 0xF0FF⟩, by simp [opcodeTable, opcodeRowsByNibble, opcodeRowsGroup8, opcodeRowsGroupsEF], rfl,
    matches_by_nn (g := 0xF) (nn := 0x18) (congrArg Fields.instruction (decodeFields_packXNN _ _ _)) (congrArg Fields.nn (decodeFields_packXNN _ _ _)) (by decide)⟩

theorem MatchesRow.opFX1E (x : Reg) : MatchesRow.Statement (.opFX1E x) :=
  ⟨⟨"FX1E", 0xF01E, 0xF0FF⟩, by simp [opcodeTable, opcodeRowsByNibble, opcodeRowsGroup8, opcodeRowsGroupsEF], rfl,
    matches_by_nn (g := 0xF) (nn := 0x1E) (congrArg Fields.instruction (decodeFields_packXNN _ _ _)) (congrArg Fields.nn (decodeFields_packXNN _ _ _)) (by decide)⟩

theorem MatchesRow.opFX29 (x : Reg) : MatchesRow.Statement (.opFX29 x) :=
  ⟨⟨"FX29", 0xF029, 0xF0FF⟩, by simp [opcodeTable, opcodeRowsByNibble, opcodeRowsGroup8, opcodeRowsGroupsEF], rfl,
    matches_by_nn (g := 0xF) (nn := 0x29) (congrArg Fields.instruction (decodeFields_packXNN _ _ _)) (congrArg Fields.nn (decodeFields_packXNN _ _ _)) (by decide)⟩

theorem MatchesRow.opFX33 (x : Reg) : MatchesRow.Statement (.opFX33 x) :=
  ⟨⟨"FX33", 0xF033, 0xF0FF⟩, by simp [opcodeTable, opcodeRowsByNibble, opcodeRowsGroup8, opcodeRowsGroupsEF], rfl,
    matches_by_nn (g := 0xF) (nn := 0x33) (congrArg Fields.instruction (decodeFields_packXNN _ _ _)) (congrArg Fields.nn (decodeFields_packXNN _ _ _)) (by decide)⟩

theorem MatchesRow.opFX55 (x : Reg) : MatchesRow.Statement (.opFX55 x) :=
  ⟨⟨"FX55", 0xF055, 0xF0FF⟩, by simp [opcodeTable, opcodeRowsByNibble, opcodeRowsGroup8, opcodeRowsGroupsEF], rfl,
    matches_by_nn (g := 0xF) (nn := 0x55) (congrArg Fields.instruction (decodeFields_packXNN _ _ _)) (congrArg Fields.nn (decodeFields_packXNN _ _ _)) (by decide)⟩

theorem MatchesRow.opFX65 (x : Reg) : MatchesRow.Statement (.opFX65 x) :=
  ⟨⟨"FX65", 0xF065, 0xF0FF⟩, by simp [opcodeTable, opcodeRowsByNibble, opcodeRowsGroup8, opcodeRowsGroupsEF], rfl,
    matches_by_nn (g := 0xF) (nn := 0x65) (congrArg Fields.instruction (decodeFields_packXNN _ _ _)) (congrArg Fields.nn (decodeFields_packXNN _ _ _)) (by decide)⟩

end Sys2Proof.Laws
end

