-- ==== Sys2Proof/Laws/Step.lean ====
section
/-!
SUPPORT. Everything one cycle can do, said once (spec/40_cycle.md R80), and that `withFetchWord` places the opcode the
next cycle fetches.
-/

namespace Sys2Proof.Machine

theorem fetch_eq_ok {s : State} {op : Word} :
    fetch s = .ok op ↔ s.programCounter.toNat ≤ 4094 ∧ op = s.memory.readWord s.programCounter.toNat := by
  unfold fetch
  split
  · simp; omega
  · simp [eq_comm]; omega

theorem fetch_eq_error {s : State} {f : Fault} :
    fetch s = .error f ↔ 4094 < s.programCounter.toNat ∧ f = .fetchOutOfRange s.programCounter := by
  unfold fetch
  split
  · simp [eq_comm]; omega
  · simp; omega

/-- A cycle that answers a next state fetched in range, decoded an instruction, ran it, and ended the cycle. -/
theorem step_next_cases {s t : State} (h : step s = .next t) :
    s.programCounter.toNat ≤ 4094 ∧
      ∃ i u, decode (s.memory.readWord s.programCounter.toNat) = .ok i ∧ exec i s = .next u ∧ t = u.endCycle := by
  unfold step at h
  split at h
  · cases h
  · next op hf =>
    obtain ⟨hpc, rfl⟩ := fetch_eq_ok.mp hf
    split at h
    · cases h
    · next i hd =>
      split at h
      · next u he => exact ⟨hpc, i, u, hd, he, by simpa [eq_comm] using h⟩
      · cases h
      · cases h

/-- The end of a cycle changes the timers alone, and those only when the cycle reports `Executed` (R170). -/
theorem State.endCycle_eq (s : State) :
    s.endCycle =
      { s with
        delayTimer := if s.report = .executed then s.delayTimer - 1 else s.delayTimer
        soundTimer := if s.report = .executed then s.soundTimer - 1 else s.soundTimer } := by
  unfold State.endCycle
  split
  · next h => rw [if_pos h, if_pos h]; rfl
  all_goals next h => rw [if_neg (by simp [h]), if_neg (by simp [h])]

theorem Memory.readWord_writeWord {m : Memory} {a : Nat} (op : Word) (hm : m.wf = true) (ha : a + 2 ≤ memorySize) :
    (m.writeWord a op).readWord a = op := by
  have h0 := Memory.writeBytes_read_inside (bytes := [highByte op, lowByte op]) hm (a := a) (by simpa using ha) 0
    (by simp)
  have h1 := Memory.writeBytes_read_inside (bytes := [highByte op, lowByte op]) hm (a := a) (by simpa using ha) 1
    (by simp)
  simp only [Nat.add_zero, List.getElem_cons_zero, List.getElem_cons_succ] at h0 h1
  simp [Memory.readWord, Memory.writeWord, h0, h1]

/-- The next cycle fetches the word that `withFetchWord` placed. -/
theorem fetch_withFetchWord {s : State} (nbits w : Nat) (hm : s.memory.wf = true) :
    fetch (s.withFetchWord nbits w) = .ok (tableWord nbits w) := by
  rw [fetch_eq_ok]
  unfold State.withFetchWord
  split
  · exact ⟨by simp, (Memory.readWord_writeWord _ hm (by decide)).symm⟩
  · next h => exact ⟨by simpa using h, (Memory.readWord_writeWord _ hm (by unfold memorySize; omega)).symm⟩

/-- A run goes on from the state its first cycle answers. -/
theorem core_run_succ {s t : State} (k : Nat) (h : step s = .next t) :
    Sys2Proof.core.run (k + 1) s = Sys2Proof.core.run k t := by
  have h' : Sys2Proof.core.step s = .next t := h
  simp only [Host.Core.run, h']

end Sys2Proof.Machine
end

