-- ==== Sys2Proof/Tests/Slice0.lean ====
section
/-!
SUPPORT. Small tests by evaluation. Expected results are the worked examples and vectors of spec/95_test_vectors.md
(sections named in the comments) or written out from the encoding table; then one witness for every statement of
Certificates/Slice0/Obligations.lean that has hypotheses, at the boundaries of its clauses.
-/

namespace Sys2Proof.Tests
open Sys2Proof Sys2Proof.Machine

/-! ### Helpers -/

/-- A core with scaler 1 and so 8-bit timers, no stack limit and the key index of the X field, at pc 0x200 with an opcode there. -/
def at200 (op : Nat) : State :=
  ((State.resetWith ⟨1, 8, none, .nibbleX⟩).setPc 0x200).withFetchWord 16 op

/-- What holds of the state after one cycle. -/
def after {α : Type} (s : State) (f : State → α) : Option α :=
  match step s with
  | .next t => some (f t)
  | .fault _ => none
  | .refused _ => none

/-- The fault one cycle ends in. -/
def faultOf (s : State) : Option Fault :=
  match step s with
  | .next _ => none
  | .fault f => some f
  | .refused _ => none

/-- pc after one cycle. -/
def pcAfter (s : State) : Option Word := after s (·.programCounter)

/-! ### Well-formedness: each check refuses an ill-formed term (R10, R62) -/

theorem test_fields_ill_formed_nnn : Fields.wellFormed ⟨0x8, 1, 2, 5, 0x25, 0x225⟩ = false := by decide
theorem test_fields_ill_formed_nn : Fields.wellFormed ⟨0x8, 1, 2, 5, 0x26, 0x126⟩ = false := by decide
theorem test_fields_well_formed : Fields.wellFormed ⟨0x8, 1, 2, 5, 0x25, 0x125⟩ = true := by decide
theorem test_config_ill_formed_scaler : Config.wellFormed ⟨0, 8, none, .nibbleX⟩ = false := by decide
theorem test_config_ill_formed_limit : Config.wellFormed ⟨1, 8, some 0, .nibbleX⟩ = false := by decide
theorem test_config_ill_formed_timer_bits :
    Config.wellFormed ⟨1, 9, none, .nibbleX⟩ = false ∧ Config.wellFormed ⟨2, 8, none, .nibbleX⟩ = false ∧
    Config.wellFormed ⟨10, 11, none, .nibbleX⟩ = false := by decide
theorem test_config_well_formed :
    Config.wellFormed ⟨1, 8, some 1, .registerVX⟩ = true ∧ Config.wellFormed ⟨10, 12, none, .nibbleX⟩ = true := by decide
theorem test_entry_ill_formed : entryWellFormed 4095 = false := by decide
theorem test_entry_well_formed : entryWellFormed 4094 = true := by decide

/-! ### The decoder, on words written out bit by bit from the `encoding` column of spec/opcode_table.json -/

theorem test_decode_groups_0_to_3 :
    decode 0b0000000011100000 = .ok .op00E0 ∧ decode 0b0000000011101110 = .ok .op00EE ∧
    decode 0b0001101010111100 = .ok (.op1NNN 0xABC) ∧ decode 0b0010001101000101 = .ok (.op2NNN 0x345) ∧
    decode 0b0011001100101010 = .ok (.op3XNN 3 0x2A) := by decide

theorem test_decode_groups_4_to_7 :
    decode 0b0100001100101010 = .ok (.op4XNN 3 0x2A) ∧ decode 0b0101000100100000 = .ok (.op5XY0 1 2 0) ∧
    decode 0b0110101010011100 = .ok (.op6XNN 0xA 0x9C) ∧ decode 0b0111000100000101 = .ok (.op7XNN 1 5) := by decide

theorem test_decode_group_8_low :
    decode 0b1000000100100000 = .ok (.op8XY0 1 2) ∧ decode 0b1000000100100001 = .ok (.op8XY1 1 2) ∧
    decode 0b1000000100100010 = .ok (.op8XY2 1 2) ∧ decode 0b1000000100100011 = .ok (.op8XY3 1 2) ∧
    decode 0b1000000100100100 = .ok (.op8XY4 1 2) := by decide

theorem test_decode_group_8_high :
    decode 0b1000000100100101 = .ok (.op8XY5 1 2) ∧ decode 0b1000000100100110 = .ok (.op8XY6 1 2) ∧
    decode 0b1000000100100111 = .ok (.op8XY7 1 2) ∧ decode 0b1000000100101110 = .ok (.op8XYE 1 2) := by decide

theorem test_decode_groups_9_to_D :
    decode 0b1001000100100000 = .ok (.op9XY0 1 2 0) ∧ decode 0b1010001100000000 = .ok (.opANNN 0x300) ∧
    decode 0b1011001100000000 = .ok (.opBNNN 0x300) ∧ decode 0b1100001100001111 = .ok (.opCXNN 3 0x0F) ∧
    decode 0b1101000000010101 = .ok (.opDXYN 0 1 5) := by decide

theorem test_decode_group_E_and_timers :
    decode 0b1110010110011110 = .ok (.opEX9E 5) ∧ decode 0b1110010110100001 = .ok (.opEXA1 5) ∧
    decode 0b1111000100000111 = .ok (.opFX07 1) ∧ decode 0b1111001100001010 = .ok (.opFX0A 3) ∧
    decode 0b1111000100010101 = .ok (.opFX15 1) ∧ decode 0b1111000100011000 = .ok (.opFX18 1) := by decide

theorem test_decode_group_F_memory :
    decode 0b1111001000011110 = .ok (.opFX1E 2) ∧ decode 0b1111010000101001 = .ok (.opFX29 4) ∧
    decode 0b1111010100110011 = .ok (.opFX33 5) ∧ decode 0b1111001001010101 = .ok (.opFX55 2) ∧
    decode 0b1111001001100101 = .ok (.opFX65 2) := by decide

/-- Section 2.9: illegal opcodes of every group that has them (R67, R69, R70, R71). -/
theorem test_decode_rejects :
    decode 0x0000 = .error (.unknownOpcode 0x0000) ∧ decode 0x0123 = .error (.unknownOpcode 0x0123) ∧
    decode 0x8008 = .error (.unknownOpcode 0x8008) ∧ decode 0x800F = .error (.unknownOpcode 0x800F) ∧
    decode 0xE0FF = .error (.unknownOpcode 0xE0FF) ∧ decode 0xF10B = .error (.unknownOpcode 0xF10B) := by decide

/-- Section 2.1: the fields of 0xD7A3 (R62). -/
theorem test_decodeFields : decodeFields 0xD7A3 = ⟨0xD, 0x7, 0xA, 0x3, 0xA3, 0x7A3⟩ := by decide

theorem test_encode : encode (.op8XY4 1 2) = 0x8124 ∧ encode (.opDXYN 0 1 5) = 0xD015 ∧ encode .op00EE = 0x00EE := by
  decide

theorem test_decodeBytes :
    decodeBytes [0x81, 0x24, 0xFF] = .ok (.op8XY4 1 2, [0xFF]) ∧ decodeBytes [0x81] = .error (.truncated 1) := by decide

theorem test_decodeTableWord :
    decodeTableWord 16 0x8124 = some (.op8XY4 1 2) ∧ decodeTableWord 16 0x8008 = none := by decide

/-! ### Control flow (sections 1 and 2.2) -/

theorem test_call : after ((at200 0x2300)) (fun t => (t.stack, t.programCounter)) = some ([0x200], 0x300) := by decide
theorem test_call_overflow :
    faultOf { ((at200 0x2400).push 0x10).push 0x20 with stackLimit := some 2 } = some (.stackOverflow 0x200) := by
  decide
theorem test_return : after ((at200 0x00EE).push 0x1234) (fun t => (t.stack, t.programCounter)) = some ([], 0x1236) := by
  decide
theorem test_return_underflow : faultOf (at200 0x00EE) = some (.stackUnderflow 0x200) := by decide
theorem test_jump : pcAfter (at200 0x1234) = some 0x234 := by decide
theorem test_jump_odd : pcAfter (at200 0x1201) = some 0x201 := by decide
theorem test_jump_offset : pcAfter ((at200 0xB300).setV 0 0x10) = some 0x310 := by decide
theorem test_jump_offset_past_memory : pcAfter ((at200 0xBFFF).setV 0 0xFF) = some 0x10FE := by decide

/-! ### Skips (section 2.3) -/

theorem test_3XNN_match : pcAfter ((at200 0x332A).setV 3 0x2A) = some 0x204 := by decide
theorem test_3XNN_no_match : pcAfter ((at200 0x332A).setV 3 0x2B) = some 0x202 := by decide
theorem test_4XNN_match : pcAfter ((at200 0x432A).setV 3 0x2A) = some 0x202 := by decide
theorem test_4XNN_no_match : pcAfter ((at200 0x432A).setV 3 0x2B) = some 0x204 := by decide
theorem test_5XY0_differ : pcAfter (((at200 0x5120).setV 1 7).setV 2 8) = some 0x202 := by decide
theorem test_5XY0_ignores_n : pcAfter (((at200 0x5127).setV 1 7).setV 2 7) = some 0x204 := by decide
theorem test_9XY0_same_register : pcAfter (at200 0x9110) = some 0x202 := by decide
theorem test_9XY0_ignores_n : pcAfter (((at200 0x912F).setV 1 7).setV 2 8) = some 0x204 := by decide

/-! ### Arithmetic and logic (section 2.4) -/

theorem test_6XNN_to_VF : after (at200 0x6F12) (·.V 0xF) = some 0x12 := by decide
theorem test_7XNN_no_flag : after ((at200 0x7F01).setV 0xF 0xFF) (·.V 0xF) = some 0x00 := by decide
theorem test_8XY0 : after ((at200 0x8120).setV 2 0x55) (·.V 1) = some 0x55 := by decide
theorem test_8XY1_keeps_VF :
    after ((((at200 0x8121).setV 1 0xF0).setV 2 0x0F).setV 0xF 0x55) (fun t => (t.V 1, t.V 0xF)) = some (0xFF, 0x55) := by
  decide
theorem test_8XY2 : after (((at200 0x8122).setV 1 0xF0).setV 2 0x3C) (·.V 1) = some 0x30 := by decide
theorem test_8XY3 : after (((at200 0x8123).setV 1 0xF0).setV 2 0x3C) (·.V 1) = some 0xCC := by decide
theorem test_8XY4_carry_to_VF :
    after (((at200 0x8F14).setV 0xF 0xF0).setV 1 0x20) (·.V 0xF) = some 1 := by decide
theorem test_8XY4_VF_addend :
    after (((at200 0x81F4).setV 1 0x05).setV 0xF 0xFF) (fun t => (t.V 1, t.V 0xF)) = some (0x04, 1) := by decide
theorem test_8XY5_borrow :
    after (((at200 0x8125).setV 1 0x10).setV 2 0x20) (fun t => (t.V 1, t.V 0xF)) = some (0xF0, 0) := by decide
theorem test_8XY5_equal :
    after (((at200 0x8125).setV 1 0x33).setV 2 0x33) (fun t => (t.V 1, t.V 0xF)) = some (0x00, 1) := by decide
theorem test_8XY6_Y_not_read :
    after (((at200 0x8126).setV 1 0x03).setV 2 0xFF) (fun t => (t.V 1, t.V 0xF)) = some (0x01, 1) := by decide
theorem test_8XY6_VF : after ((at200 0x8F06).setV 0xF 0xFF) (·.V 0xF) = some 0x00 := by decide
theorem test_8XY7_no_borrow :
    after (((at200 0x8127).setV 1 0x10).setV 2 0x20) (fun t => (t.V 1, t.V 0xF)) = some (0x10, 1) := by decide
theorem test_8XY7_borrow :
    after (((at200 0x8127).setV 1 0x20).setV 2 0x10) (fun t => (t.V 1, t.V 0xF)) = some (0xF0, 0) := by decide
theorem test_8XYE : after ((at200 0x810E).setV 1 0x81) (fun t => (t.V 1, t.V 0xF)) = some (0x02, 1) := by decide
theorem test_8XYE_VF : after ((at200 0x8F0E).setV 0xF 0x80) (·.V 0xF) = some 0x02 := by decide
theorem test_CXNN :
    after { at200 0xC30F with randomInputs := [0xB7] } (fun t => (t.V 3, t.calls)) = some (0x07, [.random 0xB7]) := by
  decide
theorem test_CXNN_zero_mask_still_calls :
    after { at200 0xC300 with randomInputs := [0xB7] } (fun t => (t.V 3, t.calls)) = some (0x00, [.random 0xB7]) := by
  decide

/-! ### Address register and memory (section 2.5) -/

theorem test_ANNN : after (at200 0xA123) (·.addressRegister) = some 0x123 := by decide
theorem test_FX1E_past_memory :
    after (((at200 0xF21E).setI 0x0FFF).setV 2 2) (·.addressRegister) = some 0x1001 := by decide
theorem test_FX1E_wraps : after (((at200 0xF01E).setI 0xFFFF).setV 0 1) (·.addressRegister) = some 0x0000 := by decide
theorem test_FX29_whole_register : after ((at200 0xF429).setV 4 0xFF) (·.addressRegister) = some 0x4FB := by decide
theorem test_FX33 :
    after (((at200 0xF533).setI 0x300).setV 5 156) (fun t => (t.memory.readBytes 0x300 3, t.addressRegister)) =
      some ([1, 5, 6], 0x300) := by decide
theorem test_FX33_out_of_range : faultOf ((at200 0xF533).setI 4094) = some (.memoryOutOfRange 4096) := by decide
theorem test_FX55_one_byte :
    after (((at200 0xF055).setI 0x400).setV 0 0xAA) (fun t => t.memory.readBytes 0x400 2) = some [0xAA, 0x00] := by decide
theorem test_FX55_out_of_range : faultOf ((at200 0xFF55).setI 0xFF1) = some (.memoryOutOfRange 4096) := by decide
theorem test_FX65 :
    after (((at200 0xF265).setMemory ((at200 0xF265).memory.writeBytes 0x400 [1, 5, 6])).setI 0x400)
      (fun t => (t.V 0, t.V 1, t.V 2, t.V 3)) = some (1, 5, 6, 0) := by decide
theorem test_FX65_out_of_range : faultOf ((at200 0xF065).setI 0x5000) = some (.memoryOutOfRange 0x5000) := by decide

/-! ### Display (section 2.6) -/

theorem test_00E0 : after (at200 0x00E0) (fun t => (t.calls, t.programCounter)) = some ([.clear], 0x202) := by decide
theorem test_DXYN_order_and_collision :
    after { (at200 0xD012).setI 0x300 with
            memory := (at200 0xD012).memory.writeBytes 0x300 [0xC0, 0x01], flipInputs := [true, false, true] }
      (fun t => (t.calls, t.V 0xF)) = some ([.flip 0 0 true, .flip 1 0 false, .flip 7 1 true], 1) := by decide
theorem test_DXYN_VF_coordinate :
    after { (((at200 0xDF11).setI 0x300).setV 0xF 3).setV 1 4 with
            memory := (at200 0xDF11).memory.write 0x300 0x80, flipInputs := [false] }
      (fun t => (t.calls, t.V 0xF)) = some ([.flip 3 4 false], 1) := by decide

/-! ### Keyboard (section 2.7) -/

theorem test_EX9E_pressed :
    after { at200 0xE59E with pressedInputs := [true] } (fun t => (t.programCounter, t.calls)) =
      some (0x204, [.pressed 5 true]) := by decide
theorem test_EX9E_register_names_no_key :
    after { (at200 0xE59E).setV 5 0x20 with skipKeyIndex := .registerVX } (fun t => (t.programCounter, t.calls)) =
      some (0x202, []) := by decide
theorem test_EXA1_pressed : pcAfter { at200 0xE5A1 with pressedInputs := [true] } = some 0x202 := by decide
theorem test_EXA1_register_not_pressed :
    after { (at200 0xE5A1).setV 5 0x0C with skipKeyIndex := .registerVX, pressedInputs := [false] }
      (fun t => (t.programCounter, t.calls)) = some (0x204, [.pressed 0xC false]) := by decide
theorem test_FX0A_waits :
    after { (at200 0xF30A).setDelay 3 with anyKeyInputs := [none] }
      (fun t => (t.report, t.programCounter, t.delayTimer)) = some (.waiting, 0x200, 3) := by decide
theorem test_FX0A_key :
    after { (at200 0xF30A).setDelay 3 with anyKeyInputs := [some 0xB] }
      (fun t => (t.V 3, t.programCounter, t.delayTimer)) = some (0x0B, 0x202, 2) := by decide

/-! ### Timers (section 2.8) -/

theorem test_FX15_then_tick : after ((at200 0xF115).setV 1 5) (·.delayTimer) = some 4 := by decide
theorem test_FX15_not_masked :
    after { (at200 0xF115).setV 1 255 with timerScaler := 10, timerBits := 12 } (·.delayTimer) = some 2549 := by decide
theorem test_FX07_rounds_up :
    after { (at200 0xF107).setDelay 9 with timerScaler := 4, timerBits := 10 } (fun t => (t.V 1, t.delayTimer)) = some (3, 8) := by decide
theorem test_FX07_zero : after { at200 0xF107 with timerScaler := 4, timerBits := 10 } (fun t => (t.V 1, t.delayTimer)) = some (0, 0) := by
  decide
theorem test_FX18_then_tick : after { (at200 0xF118).setV 1 2 with timerScaler := 3, timerBits := 10 } (·.soundTimer) = some 5 := by decide

/-! ### Faults and their reports (section 2.9) -/

theorem test_unknown_opcode : faultOf (at200 0x8008) = some (.unknownOpcode 0x8008) := by decide
theorem test_unknown_opcode_message :
    (Fault.unknownOpcode 0x8008).message = some "Unknown optcode 0x8008" ∧
    (Fault.unknownOpcode 0xE0FF).message = some "Unknown optcode 0xE0FF" := by decide
theorem test_fetch_out_of_range : faultOf ((at200 0x00E0).setPc 0x0FFF) = some (.fetchOutOfRange 0x0FFF) := by decide
theorem test_fetch_at_top :
    pcAfter (((State.resetWith ⟨1, 8, none, .nibbleX⟩).setPc 0xFFE).withFetchWord 16 0x00E0) = some 0x1000 := by decide
/-- From reset with nothing placed, the first cycle fetches 0x0000, which is no instruction (D11). -/
theorem test_reset_runs_no_program : faultOf State.reset = some (.unknownOpcode 0x0000) := by decide

/-! ### The free values stop no instruction from completing at reset -/

/-- An instruction placed at reset runs as the first instruction. -/
def completesAtReset (op : Nat) : Bool := (after (State.reset.withFetchWord 16 op) fun _ => ()).isSome

theorem test_free_values_complete :
    completesAtReset 0xC30F = true ∧ completesAtReset 0xD015 = true ∧ completesAtReset 0xE59E = true ∧
    completesAtReset 0xE5A1 = true ∧ completesAtReset 0xF30A = true ∧ completesAtReset 0xF107 = true ∧
    completesAtReset 0xF115 = true ∧ completesAtReset 0xF118 = true ∧ completesAtReset 0x2345 = true := by decide

/-! ### Witnesses: each statement's hypotheses are met, at the boundaries of its clauses -/

/-- A core whose timers, scaler and stack stand at the ends of their ranges. -/
def full (op : Nat) : State :=
  { (at200 op).push 0xFFE with timerScaler := 2, timerBits := 9, delayTimer := 510, soundTimer := 510, stackLimit := some 2 }

theorem at200_inv : (at200 0x1200).Inv :=
  ⟨by decide, by decide, by decide, by decide, by decide, by intro l h; cases h⟩

theorem full_inv : (full 0x2300).Inv :=
  ⟨by decide, by decide, by decide, by decide, by decide, by intro l h; cases h; decide⟩

theorem full_timersFit : (full 0xF115).TimersFit := ⟨by decide, by decide⟩

theorem full_pcBounded : (full 0x2300).PcBounded :=
  ⟨by decide, fun e he => by
    have h : e ∈ [(0xFFE : Word)] := he
    rw [List.mem_singleton.mp h]; decide⟩

theorem witness_EncodeOfDecode : decode 0x812F = .error (.unknownOpcode 0x812F) ∧ decode 0x512F = .ok (.op5XY0 1 2 0xF) := by
  decide

theorem witness_SkipGroupsIgnoreN :
    (decodeFields 0x512F).instruction = 0x5 ∧ (decodeFields 0x912F).instruction = 0x9 := by decide

theorem witness_CycleRunsDecodedInstruction :
    4094 < ((at200 0x00E0).setPc 0xFFF).programCounter.toNat ∧ (at200 0x8124).Runs (.op8XY4 1 2) ∧
    (∃ t, exec (.op8XY4 1 2) (at200 0x8124) = .next t ∧ t.report = .executed) ∧
    (∃ t, exec (.opFX0A 3) { at200 0xF30A with anyKeyInputs := [none] } = .next t ∧ t.report = .waiting) ∧
    (∃ f, exec .op00EE (at200 0x00EE) = .fault f) ∧ (∃ e, decode (at200 0x8008).opcode = .error e) :=
  ⟨by decide, by decide, ⟨_, rfl, rfl⟩, ⟨_, rfl, rfl⟩, ⟨_, rfl⟩, ⟨.unknownOpcode 0x8008, by decide⟩⟩

theorem witness_SubCodesSelectOrRaise :
    (at200 0x812D).programCounter.toNat ≤ 4094 ∧
    (at200 0x8127).Runs (.op8XY7 1 2) ∧ (at200 0xE59E).Runs (.opEX9E 5) ∧ (at200 0xF165).Runs (.opFX65 1) ∧
    faultOf (at200 0x812D) = some (.unknownOpcode 0x812D) ∧ faultOf (at200 0xE5A2) = some (.unknownOpcode 0xE5A2) ∧
    faultOf (at200 0xF164) = some (.unknownOpcode 0xF164) := by decide

theorem witness_UnknownOpcodeRaised :
    (at200 0x0000).programCounter.toNat ≤ 4094 ∧ faultOf (at200 0x00E1) = some (.unknownOpcode 0x00E1) ∧
    faultOf (at200 0x800D) = some (.unknownOpcode 0x800D) ∧ faultOf (at200 0xE09F) = some (.unknownOpcode 0xE09F) ∧
    faultOf (at200 0xFF66) = some (.unknownOpcode 0xFF66) := by decide

theorem witness_CycleFaultsExactly :
    faultOf ((at200 0x00E0).setPc 4095) = some (.fetchOutOfRange 4095) ∧
    faultOf ((full 0x2300).push 0x300) = some (.stackOverflow 0x200) ∧
    faultOf ((at200 0xD012).setI 0xFFF) = some (.memoryOutOfRange 4096) := by decide

theorem witness_WaitingCycleChangesNothing :
    ∃ t, step { at200 0xF30A with anyKeyInputs := [none] } = .next t ∧ t.report = .waiting := ⟨_, rfl, rfl⟩

theorem witness_TimersTickAfterExecutedCycle :
    timerBitsWellFormed (full 0xF115).timerScaler (full 0xF115).timerBits = true ∧
  ((full 0xF115).Runs (.opFX15 1) ∧ ∃ t, step (full 0xF115) = .next t ∧ t.report = .executed) ∧
  ((full 0xF118).Runs (.opFX18 1) ∧ ∃ t, step (full 0xF118) = .next t ∧ t.report = .executed) ∧
  (full 0x1300).Runs (.op1NNN 0x300) ∧ ∃ t, step (full 0x1300) = .next t ∧ t.report = .executed :=
  ⟨by decide, ⟨by decide, _, rfl, rfl⟩, ⟨by decide, _, rfl, rfl⟩, by decide, _, rfl, rfl⟩

theorem witness_CycleKeepsInvariant : (full 0x2300).Inv ∧ ∃ t, step (full 0x2300) = .next t := ⟨full_inv, _, rfl⟩

theorem witness_TimersKeepTheirWidth :
    (full 0xF115).TimersFit ∧ (∃ t, step (full 0xF115) = .next t) ∧ (at200 0x1200).Inv ∧ (at200 0x1200).timerScaler = 1 :=
  ⟨full_timersFit, ⟨_, rfl⟩, at200_inv, rfl⟩

theorem witness_ResetMeetsInvariant : Config.wellFormed ⟨1, 8, some 1, .registerVX⟩ = true := by decide

theorem witness_PcNeverWraps :
    (full 0x2300).PcBounded ∧ (∃ t, step (full 0x2300) = .next t) ∧ (full 0x2300).programCounter.toNat ≤ 4094 :=
  ⟨full_pcBounded, ⟨_, rfl⟩, by decide⟩

theorem witness_ParametersNeverChange : ∃ t, step (full 0x2300) = .next t := ⟨_, rfl⟩

theorem witness_IndexWrittenOnlyByItsInstructions :
    (at200 0xF265).Runs (.opFX65 2) ∧ (∃ t, step (at200 0xF265) = .next t) ∧ (∀ nnn, Instr.opFX65 2 ≠ .opANNN nnn) ∧
    (∀ x, Instr.opFX65 2 ≠ .opFX1E x) ∧ (∀ x, Instr.opFX65 2 ≠ .opFX29 x) :=
  ⟨by decide, ⟨_, rfl⟩, (fun _ h => by cases h), (fun _ h => by cases h), (fun _ h => by cases h)⟩

theorem witness_StackChangesOnlyByCallAndReturn :
    ((full 0x00EE).Runs .op00EE ∧ ∃ t, step (full 0x00EE) = .next t) ∧
    ((full 0x2300).Runs (.op2NNN 0x300) ∧ ∃ t, step (full 0x2300) = .next t) ∧
    ((full 0x1300).Runs (.op1NNN 0x300) ∧ ∃ t, step (full 0x1300) = .next t) :=
  ⟨⟨by decide, _, rfl⟩, ⟨by decide, _, rfl⟩, ⟨by decide, _, rfl⟩⟩

theorem witness_MemoryChangesOnlyWhereStored :
    (((at200 0xFF55).setI 0xFF0).memory.wf = true ∧ ((at200 0xFF55).setI 0xFF0).Runs (.opFX55 0xF) ∧
      (∃ t, step ((at200 0xFF55).setI 0xFF0) = .next t) ∧
      (0xFEF < ((at200 0xFF55).setI 0xFF0).addressRegister.toNat)) ∧
    ((at200 0x6101).memory.wf = true ∧ (at200 0x6101).Runs (.op6XNN 1 1) ∧ ∃ t, step (at200 0x6101) = .next t) :=
  ⟨⟨by decide, by decide, ⟨_, rfl⟩, by decide⟩, by decide, by decide, _, rfl⟩

theorem witness_FlagRegisterWrittenOnlyAsListed :
    (at200 0x6F01).Runs (.op6XNN 0xF 1) ∧ ∃ t, step (at200 0x6F01) = .next t ∧ t.V 0xF ≠ (at200 0x6F01).V 0xF :=
  ⟨by decide, _, rfl, by decide⟩

theorem witness_CallsMadeOnlyByTheirInstructions :
    (at200 0xE59E).Runs (.opEX9E 5) ∧ ∃ t, step (at200 0xE59E) = .next t := ⟨by decide, _, rfl⟩

theorem witness_SoundTimerIsNeverRead :
    (∃ t, step (full 0xF118) = .next t) ∧ ∃ f, step (at200 0x00EE) = .fault f := ⟨⟨_, rfl⟩, _, rfl⟩

theorem witness_JumpToSelfOnlyTicks :
    (at200 0x1200).Runs (.op1NNN 0x200) ∧ (0x200 : Addr12).toNat = (at200 0x1200).programCounter.toNat := by decide

theorem witness_KeyWaitIsIdempotent :
    { at200 0xF30A with anyKeyInputs := [none, none, some 0xB] }.Runs (.opFX0A 3) ∧
    ([none, none, some 0xB] : List (Option Key)) = List.replicate 2 none ++ [some 0xB] := by decide

theorem witness_StoredCodeIsFetched :
    ((at200 0xF155).setI 0x202).memory.wf = true ∧ ((at200 0xF155).setI 0x202).Runs (.opFX55 1) ∧
    1 ≤ (1 : Reg).toNat ∧
    ((at200 0xF155).setI 0x202).addressRegister.toNat = ((at200 0xF155).setI 0x202).programCounter.toNat + 2 ∧
    ∃ t, step ((at200 0xF155).setI 0x202) = .next t :=
  ⟨by decide, by decide, by decide, by decide, _, rfl⟩

theorem witness_ReturnComesBackAfterCall : ∃ t, exec (.op2NNN 0x300) (full 0x2300) = .next t := ⟨_, rfl⟩

theorem witness_BootLoadsImages :
    Config.wellFormed ⟨1, 8, none, .nibbleX⟩ = true ∧ (List.replicate 80 (0 : Byte)).length ≤ 4096 ∧
    4094 + ([0x00, 0xE0] : List Byte).length ≤ 4096 ∧ (4094 : Word).toNat ≤ 4094 := by decide

theorem witness_BootRejectsIllegalArguments :
    Config.wellFormed ⟨1, 9, none, .nibbleX⟩ = false ∧ 4096 < (List.replicate 4097 (0 : Byte)).length ∧
    4096 < 4095 + ([0x00, 0xE0] : List Byte).length ∧ 4094 < (4095 : Word).toNat := by
  refine ⟨by decide, ?_, by decide, by decide⟩
  rw [List.length_replicate]; decide

theorem witness_ReturnPopsStack :
    (at200 0x00EE).stack = [] ∧ (full 0x00EE).stack = 0xFFE :: [] := by decide

theorem witness_CallPushesOwnAddress :
    (full 0x2300).stackLimit ≠ some (full 0x2300).stack.length ∧
    ((full 0x2300).push 0x300).stackLimit = some ((full 0x2300).push 0x300).stack.length := by decide

/-- The encoding hypotheses of JumpSetsPc, CallPushesOwnAddress, JumpAddsV0, SkipsCompareImmediate, SkipsCompareRegisters,
ImmediateLoadAndAdd, IndexLoads (ANNN), RandomByteMasked and SpriteFlipsInOrder. -/
theorem witness_field_hypotheses :
    (decodeFields 0x1FFF).instruction = 0x1 ∧ (decodeFields 0x2FFF).instruction = 0x2 ∧
    (decodeFields 0x3FFF).instruction = 0x3 ∧ (decodeFields 0x4000).instruction = 0x4 ∧
    (decodeFields 0x6000).instruction = 0x6 ∧ (decodeFields 0x7FFF).instruction = 0x7 ∧
    (decodeFields 0x5127).instruction = 0x5 ∧ (decodeFields 0x912F).instruction = 0x9 ∧
    (decodeFields 0xA000).instruction = 0xA ∧ (decodeFields 0xBFFF).instruction = 0xB ∧
    (decodeFields 0xC000).instruction = 0xC ∧ (decodeFields 0xDFFF).instruction = 0xD := by decide

/-- The encoding hypotheses of CopyAndLogicWriteVX, AddWritesCarry, SubtractsWriteNotBorrow and ShiftsWriteFlagFirst. -/
theorem witness_group8_hypotheses :
    (decodeFields 0x8FFE).instruction = 0x8 ∧ (decodeFields 0x8FF0).n = 0x0 ∧ (decodeFields 0x8FF1).n = 0x1 ∧
    (decodeFields 0x8FF2).n = 0x2 ∧ (decodeFields 0x8FF3).n = 0x3 ∧ (decodeFields 0x8FF4).n = 0x4 ∧
    (decodeFields 0x8FF5).n = 0x5 ∧ (decodeFields 0x8FF6).n = 0x6 ∧ (decodeFields 0x8FF7).n = 0x7 ∧
    (decodeFields 0x8FFE).n = 0xE := by decide

/-- The encoding hypotheses of KeySkipsTestTheKey. -/
theorem witness_groupE_hypotheses :
    (decodeFields 0xEF9E).instruction = 0xE ∧ (decodeFields 0xEF9E).nn = 0x9E ∧ (decodeFields 0xE0A1).nn = 0xA1 := by
  decide

/-- The encoding hypotheses of the statements about group F. -/
theorem witness_groupF_hypotheses :
    (decodeFields 0xFF07).instruction = 0xF ∧ (decodeFields 0xFF07).nn = 0x07 ∧ (decodeFields 0xF00A).nn = 0x0A ∧
    (decodeFields 0xF015).nn = 0x15 ∧ (decodeFields 0xF018).nn = 0x18 ∧ (decodeFields 0xF01E).nn = 0x1E ∧
    (decodeFields 0xF029).nn = 0x29 ∧ (decodeFields 0xF033).nn = 0x33 ∧ (decodeFields 0xF055).nn = 0x55 ∧
    (decodeFields 0xF065).nn = 0x65 := by decide

theorem witness_AddSubtractShift_at_VF : (0 : Reg) ≠ 0xF ∧ (0xE : Reg) ≠ 0xF ∧ (0xF : Reg) = 0xF := by decide

theorem witness_DecimalDigitsStored :
    ((at200 0xF533).setI 4093).memory.wf = true ∧ ((at200 0xF533).setI 4093).addressRegister.toNat ≤ 4093 ∧
    4093 < ((at200 0xF533).setI 4094).addressRegister.toNat := by decide

theorem witness_RegisterBlockStored :
    ((at200 0xFF55).setI 0xFF0).memory.wf = true ∧
    ((at200 0xFF55).setI 0xFF0).addressRegister.toNat + (0xF : Reg).toNat ≤ 4095 ∧
    4095 < ((at200 0xFF55).setI 0xFF1).addressRegister.toNat + (0xF : Reg).toNat := by decide

theorem witness_RegisterBlockLoaded :
    ((at200 0xF065).setI 0xFFF).addressRegister.toNat + (0 : Reg).toNat ≤ 4095 ∧
    4095 < ((at200 0xF065).setI 0x1000).addressRegister.toNat + (0 : Reg).toNat := by decide

theorem witness_SpriteFlipsInOrder :
    (0 < (2 : BitVec 4).toNat ∧ 4095 < ((at200 0xD012).setI 0xFFF).addressRegister.toNat + ((2 : BitVec 4).toNat - 1)) ∧
    ((at200 0xD011).setI 0xFFF).addressRegister.toNat + ((1 : BitVec 4).toNat - 1) ≤ 4095 ∧
    (0 : BitVec 4).toNat = 0 := by decide

theorem witness_KeySkipsTestTheKey :
    (at200 0xE59E).skipKeyIndex = .nibbleX ∧
    ({ (at200 0xE59E).setV 5 15 with skipKeyIndex := .registerVX }.skipKeyIndex = .registerVX ∧
      (15 : Key).toNat = ((at200 0xE59E).setV 5 15).V 5) ∧
    ({ (at200 0xE59E).setV 5 16 with skipKeyIndex := .registerVX }.skipKeyIndex = .registerVX ∧
      15 < (((at200 0xE59E).setV 5 16).V 5).toNat) := by decide

theorem witness_WaitForKeyLoadsIndex :
    { at200 0xF30A with anyKeyInputs := [none] }.anyKeyAnswer = none ∧
    { at200 0xF30A with anyKeyInputs := [some 0xF] }.anyKeyAnswer = some 0xF := by decide

theorem witness_DelayTimerReadRoundsUp :
    1 ≤ (full 0xF107).timerScaler ∧ (full 0xF107).delayTimer ≤ 255 * (full 0xF107).timerScaler ∧
    1 ≤ (at200 0xF107).timerScaler ∧ (at200 0xF107).delayTimer = 0 := by decide

theorem witness_TimersSetInTicks :
    timerBitsWellFormed (full 0xF115).timerScaler (full 0xF115).timerBits = true ∧ (full 0xF115).Runs (.opFX15 1) ∧
    (full 0xF118).Runs (.opFX18 1) := by decide

end Sys2Proof.Tests
end

/-! ## Proofs: the encoding (spec/30_encoding.md) -/

section

namespace Sys2Proof

/-! ### The fields as masks and shifts (R61) -/

/-- A field of a bit vector is the shifted value under a mask of the field's width. -/
theorem toNat_extractLsb'_eq_mask {w : Nat} (v : BitVec w) (start len : Nat) :
    (v.extractLsb' start len).toNat = (v.toNat >>> start) &&& (2 ^ len - 1) := by
  rw [BitVec.extractLsb'_toNat, Nat.and_two_pow_sub_one_eq_mod]

/-- Settles O4: each field is one instance of `toNat_extractLsb'_eq_mask`. -/
theorem fieldsAreMasks : Obligations.FieldsAreMasks := by
  intro op
  exact ⟨toNat_extractLsb'_eq_mask op 12 4, toNat_extractLsb'_eq_mask op 0 12, toNat_extractLsb'_eq_mask op 0 8,
    toNat_extractLsb'_eq_mask op 0 4, toNat_extractLsb'_eq_mask op 8 4, toNat_extractLsb'_eq_mask op 4 4⟩

/-! ### The dispatch of groups 8, E and F (R69 to R71) -/

theorem decode_eq_decodeGroup8 {op : Word} (hg : (decodeFields op).instruction = 0x8) :
    decode op = decodeGroup8 op (decodeFields op) := by
  simp only [decode, hg]; rfl

theorem decode_eq_decodeGroupE {op : Word} (hg : (decodeFields op).instruction = 0xE) :
    decode op = decodeGroupE op (decodeFields op) := by
  simp only [decode, hg]; rfl

theorem decode_eq_decodeGroupF {op : Word} (hg : (decodeFields op).instruction = 0xF) :
    decode op = decodeGroupF op (decodeFields op) := by
  simp only [decode, hg]; rfl

/-- The seven values of N that group 8 does not list (R69). -/
theorem decodeGroup8_eq_error {op : Word} {f : Fields}
    (hn : f.n ∈ ([0x8, 0x9, 0xA, 0xB, 0xC, 0xD, 0xF] : List (BitVec 4))) :
    decodeGroup8 op f = .error (.unknownOpcode op) := by
  simp only [List.mem_cons, List.not_mem_nil, or_false] at hn
  rcases hn with hn | hn | hn | hn | hn | hn | hn <;> (rw [decodeGroup8, hn]; rfl)

/-- Every value of NN that group E does not list (R70). -/
theorem decodeGroupE_eq_error {op : Word} {f : Fields} (h9E : f.nn ≠ 0x9E) (hA1 : f.nn ≠ 0xA1) :
    decodeGroupE op f = .error (.unknownOpcode op) := by
  unfold decodeGroupE
  split
  case h_1 hnn => exact absurd (BitVec.eq_of_toNat_eq hnn) h9E
  case h_2 hnn => exact absurd (BitVec.eq_of_toNat_eq hnn) hA1
  case h_3 => rfl

/-- Every value of NN that group F does not list (R71). -/
theorem decodeGroupF_eq_error {op : Word} {f : Fields}
    (hnn : f.nn ∉ ([0x07, 0x0A, 0x15, 0x18, 0x1E, 0x29, 0x33, 0x55, 0x65] : List Byte)) :
    decodeGroupF op f = .error (.unknownOpcode op) := by
  unfold decodeGroupF
  split
  case h_10 => rfl
  all_goals
    next hlisted => exact absurd (by simp [← BitVec.toNat_inj, hlisted]) hnn

end Sys2Proof

namespace Sys2Proof.Machine

/-- A cycle that fetches in range and fails to decode ends in the decoder's fault (R182). -/
theorem step_of_decode_error {s : State} {e : DecodeError} (hpc : s.programCounter.toNat ≤ 4094)
    (he : decode s.opcode = .error e) : step s = .fault (decodeFault e) := by
  have hfetch : fetch s = .ok s.opcode := fetch_eq_ok.mpr ⟨hpc, rfl⟩
  simp only [step, hfetch, he]

/-- Settles O10: the group's dispatch answers by the sub-code, and a sub-code it does not list is a failed decode. -/
theorem subCodesSelectOrRaise : Obligations.SubCodesSelectOrRaise := by
  rintro s hpc f rfl
  refine ⟨fun hg => ?_, fun hg => ?_, fun hg => ?_⟩
  · have hd := decode_eq_decodeGroup8 hg
    refine ⟨?_, ?_, ?_, ?_, ?_, ?_, ?_, ?_, ?_,
      fun hn => step_of_decode_error hpc (hd.trans (decodeGroup8_eq_error hn))⟩
    all_goals exact fun hn => ⟨hpc, by rw [hd, decodeGroup8, hn]; rfl⟩
  · have hd := decode_eq_decodeGroupE hg
    refine ⟨?_, ?_, fun h9E hA1 => step_of_decode_error hpc (hd.trans (decodeGroupE_eq_error h9E hA1))⟩
    all_goals exact fun hnn => ⟨hpc, by rw [hd, decodeGroupE, hnn]; rfl⟩
  · have hd := decode_eq_decodeGroupF hg
    refine ⟨?_, ?_, ?_, ?_, ?_, ?_, ?_, ?_, ?_,
      fun hnn => step_of_decode_error hpc (hd.trans (decodeGroupF_eq_error hnn))⟩
    all_goals exact fun hnn => ⟨hpc, by rw [hd, decodeGroupF, hnn]; rfl⟩

end Sys2Proof.Machine
end

/-! ## Proofs: control transfer (spec/41_control_flow.md) -/

section

namespace Sys2Proof

/-! ### The dispatch of groups 1 and B (R72) -/

theorem decode_eq_op1NNN {op : Word} (hg : (decodeFields op).instruction = 0x1) :
    decode op = .ok (.op1NNN (decodeFields op).nnn) := by
  simp only [decode, hg]; rfl

theorem decode_eq_opBNNN {op : Word} (hg : (decodeFields op).instruction = 0xB) :
    decode op = .ok (.opBNNN (decodeFields op).nnn) := by
  simp only [decode, hg]; rfl

end Sys2Proof

namespace Sys2Proof.Machine

/-! ### Targets (R65, R100) -/

@[simp] theorem addressOf_toNat (nnn : Addr12) : (addressOf nnn).toNat = nnn.toNat :=
  BitVec.toNat_setWidth_of_le (by decide)

@[simp] theorem offsetOf_toNat (v : Byte) : (offsetOf v).toNat = v.toNat :=
  BitVec.toNat_setWidth_of_le (by decide)

/-- The sum of BNNN is at most 0x0FFF + 0xFF, so its modulo 65536 never applies (R104). -/
theorem addressOf_add_offsetOf_le (nnn : Addr12) (v : Byte) : (addressOf nnn + offsetOf v).toNat ≤ 0x10FE := by
  have hnnn := nnn.isLt
  have hv := v.isLt
  rw [BitVec.toNat_add, addressOf_toNat, offsetOf_toNat]
  omega

/-! ### The frame of a control transfer -/

/-- A write of the stack, of pc and of the report is within the frame of control transfer. With `stack := s.stack` this
is a write of pc alone. -/
theorem onlyControlChanges_setStack_setPc (s : State) (stack : List Word) (pc : Word) (r : Report) :
    OnlyControlChanges s (((s.setStack stack).setPc pc).setReport r) := by
  simp [OnlyControlChanges, SameMemory, SameRegisters, SameTimers, SameConfig, SameCollaborators]

/-- A completed jump: it goes to `pc`, keeps the stack and reports `Executed`. -/
theorem complete_setPc (s : State) (pc : Word) :
    ∃ t, complete (s.setPc pc) = .next t ∧ t.programCounter = pc ∧ t.stack = s.stack ∧ t.report = .executed ∧
      OnlyControlChanges s t :=
  ⟨_, rfl, rfl, rfl, rfl, onlyControlChanges_setStack_setPc s s.stack pc .executed⟩

/-! ### The jumps -/

theorem exec_op1NNN (nnn : Addr12) (s : State) : exec (.op1NNN nnn) s = complete (s.setPc (addressOf nnn)) := rfl

theorem exec_opBNNN (nnn : Addr12) (s : State) :
    exec (.opBNNN nnn) s = complete (s.setPc (addressOf nnn + offsetOf (s.V 0))) := rfl

/-- Settles O35: 1NNN completes with pc written by the zero-extended NNN, which is NNN. -/
theorem jumpSetsPc : Obligations.JumpSetsPc := by
  refine ⟨fun _ => decode_eq_op1NNN, fun s nnn => ?_⟩
  obtain ⟨t, ht, hpc, hframe⟩ := complete_setPc s (addressOf nnn)
  exact ⟨t, (exec_op1NNN nnn s).trans ht, by rw [hpc, addressOf_toNat], hframe⟩

/-- Settles O37: BNNN completes with pc written by a 16-bit sum that does not pass 0x10FE. -/
theorem jumpAddsV0 : Obligations.JumpAddsV0 := by
  refine ⟨fun _ => decode_eq_opBNNN, fun s nnn => ?_⟩
  obtain ⟨t, ht, hpc, hframe⟩ := complete_setPc s (addressOf nnn + offsetOf (s.V 0))
  refine ⟨t, (exec_opBNNN nnn s).trans ht, ?_, ?_, hframe⟩
  · rw [hpc, BitVec.toNat_add, addressOf_toNat, offsetOf_toNat]
  · rw [hpc]
    exact addressOf_add_offsetOf_le nnn (s.V 0)

end Sys2Proof.Machine
end

/-! ## Proofs: conditional skips (spec/42_skips.md) -/

section

namespace Sys2Proof

/-! ### The dispatch of groups 3 and 4 (R72) -/

theorem decode_eq_op3XNN {op : Word} (hg : (decodeFields op).instruction = 0x3) :
    decode op = .ok (.op3XNN (decodeFields op).x (decodeFields op).nn) := by
  simp only [decode, hg]; rfl

theorem decode_eq_op4XNN {op : Word} (hg : (decodeFields op).instruction = 0x4) :
    decode op = .ok (.op4XNN (decodeFields op).x (decodeFields op).nn) := by
  simp only [decode, hg]; rfl

end Sys2Proof

namespace Sys2Proof.Machine

/-! ### A completed skip (R110) -/

/-- A skip is a write of pc alone, so it has the frame of a jump. -/
theorem skipIf_eq_setPc (s : State) (c : Bool) :
    s.skipIf c = s.setPc (s.programCounter + if c then 4 else 2) := by
  cases c <;> rfl

/-- A completed skip: four on when `p` holds and two on otherwise, with the stack kept and `Executed` reported. -/
theorem complete_skipIf (s : State) (p : Prop) [Decidable p] :
    ∃ t, complete (s.skipIf (decide p)) = .next t ∧
      t.programCounter.toNat = (s.programCounter.toNat + if p then 4 else 2) % 65536 ∧
      t.stack = s.stack ∧ t.report = .executed ∧ OnlyControlChanges s t := by
  obtain ⟨t, ht, hpc, hframe⟩ := complete_setPc s (s.programCounter + if decide p then 4 else 2)
  refine ⟨t, by rw [skipIf_eq_setPc, ht], ?_, hframe⟩
  rw [hpc, BitVec.toNat_add]
  by_cases hp : p <;> simp [hp]

/-! ### The skips on an immediate (R111, R112) -/

theorem exec_op3XNN (x : Reg) (nn : Byte) (s : State) :
    exec (.op3XNN x nn) s = complete (s.skipIf (decide (s.V x = nn))) := rfl

theorem exec_op4XNN (x : Reg) (nn : Byte) (s : State) :
    exec (.op4XNN x nn) s = complete (s.skipIf (decide (s.V x ≠ nn))) := rfl

/-- Settles O38: both complete with a skip, 3XNN on equality of VX and NN, 4XNN on its negation, which swaps the two
distances. -/
theorem skipsCompareImmediate : Obligations.SkipsCompareImmediate := by
  refine ⟨fun _ => ⟨decode_eq_op3XNN, decode_eq_op4XNN⟩, fun s x nn => ⟨?_, ?_⟩⟩
  · simpa only [exec_op3XNN, BitVec.toNat_inj] using complete_skipIf s (s.V x = nn)
  · simpa only [exec_op4XNN, BitVec.toNat_inj, ite_not] using complete_skipIf s (s.V x ≠ nn)

end Sys2Proof.Machine
end

/-! ## Proofs: arithmetic and logic (spec/43_alu.md) -/

section

namespace Sys2Proof

/-! ### The dispatch of groups 6, 7 and 8 (R69, R72) -/

theorem decode_eq_op6XNN {op : Word} (hg : (decodeFields op).instruction = 0x6) :
    decode op = .ok (.op6XNN (decodeFields op).x (decodeFields op).nn) := by
  simp only [decode, hg]; rfl

theorem decode_eq_op7XNN {op : Word} (hg : (decodeFields op).instruction = 0x7) :
    decode op = .ok (.op7XNN (decodeFields op).x (decodeFields op).nn) := by
  simp only [decode, hg]; rfl

/-- Group 8 with its N known: for a literal `n` the right side computes to the instruction R69 lists, or to the
rejection. -/
theorem decode_eq_decodeGroup8_of_n {op : Word} {n : BitVec 4} (hg : (decodeFields op).instruction = 0x8)
    (hn : (decodeFields op).n = n) : decode op = decodeGroup8 op { decodeFields op with n := n } := by
  rw [decode_eq_decodeGroup8 hg, ← hn]

end Sys2Proof

namespace Sys2Proof.Machine

/-! ### The results and the flags as numbers (R120, R127 to R132) -/

/-- The difference of two bytes is the integer difference modulo 256 (R128, R131). -/
theorem sub_toNat_eq_emod (a b : Byte) : ((a - b).toNat : Int) = ((a.toNat : Int) - b.toNat) % 256 := by
  have hb := b.isLt
  rw [BitVec.toNat_sub]
  omega

theorem carryFlag_toNat (a b : Byte) : (carryFlag a b).toNat = if a.toNat + b.toNat > 255 then 1 else 0 := by
  unfold carryFlag
  split <;> rfl

theorem notBorrowFlag_toNat (a b : Byte) : (notBorrowFlag a b).toNat = if a.toNat < b.toNat then 0 else 1 := by
  unfold notBorrowFlag
  split <;> rfl

theorem shiftRightFlag_toNat (a : Byte) : (shiftRightFlag a).toNat = a.toNat % 2 :=
  (BitVec.toNat_and ..).trans (Nat.and_one_is_mod _)

theorem shiftLeftFlag_toNat (a : Byte) : (shiftLeftFlag a).toNat = a.toNat / 128 := by
  have ha := a.isLt
  have hmod : (shiftLeftFlag a).toNat = (a >>> 7).toNat % 2 := shiftRightFlag_toNat (a >>> 7)
  rw [hmod, BitVec.toNat_ushiftRight, Nat.shiftRight_eq_div_pow]
  omega

/-- A shift right by one halves (R130). -/
theorem shiftRight_one_toNat (a : Byte) : (a >>> 1).toNat = a.toNat / 2 := by
  rw [BitVec.toNat_ushiftRight, Nat.shiftRight_eq_div_pow, Nat.pow_one]

/-- A shift left by one doubles modulo 256 (R132). -/
theorem shiftLeft_one_toNat (a : Byte) : (a <<< 1).toNat = a.toNat * 2 % 256 := by
  rw [BitVec.toNat_shiftLeft, Nat.shiftLeft_eq, Nat.pow_one]

/-! ### The flag register (R24) -/

theorem setFlag_V_flag (s : State) (flag : Byte) : (s.setFlag flag).V 0xF = flag := State.setV_V_self s 0xF flag

theorem setFlag_V_of_ne (s : State) {x : Reg} (hx : x ≠ 0xF) (flag : Byte) : (s.setFlag flag).V x = s.V x :=
  State.setV_V_of_ne s hx flag

/-! ### A completed register instruction (R120) -/

theorem onlyRegistersChange_refl (s : State) : OnlyRegistersChange s s := by
  simp [OnlyRegistersChange, SameMemory, SameTimers, SameConfig, SameCollaborators]

/-- One register write: VX holds the result, and no other register changes. -/
theorem complete_setV (s : State) (x : Reg) (v : Byte) :
    ∃ t, complete (s.setV x v).advance = .next t ∧ t.V x = v ∧ SameRegistersBut (· = x) s t ∧
      t.programCounter = s.programCounter + 2 ∧ t.report = .executed ∧ OnlyRegistersChange s t :=
  ⟨_, rfl, State.setV_V_self s x v, fun _ hr => State.setV_V_of_ne s hr v, rfl, rfl, onlyRegistersChange_refl s⟩

/-- Two register writes: the second is the last word on the register it writes (R25). -/
theorem complete_setV_setV (s : State) (i j : Reg) (v w : Byte) :
    ∃ t, complete ((s.setV i v).setV j w).advance = .next t ∧ t.V j = w ∧ (i ≠ j → t.V i = v) ∧
      SameRegistersBut (fun r => r = i ∨ r = j) s t ∧
      t.programCounter = s.programCounter + 2 ∧ t.report = .executed ∧ OnlyRegistersChange s t := by
  refine ⟨_, rfl, State.setV_V_self _ j w, fun hij => ?_, fun r hr => ?_, rfl, rfl, onlyRegistersChange_refl s⟩
  · exact (State.setV_V_of_ne _ hij w).trans (State.setV_V_self s i v)
  · obtain ⟨hri, hrj⟩ := not_or.mp hr
    exact (State.setV_V_of_ne _ hrj w).trans (State.setV_V_of_ne s hri v)

/-- The result to VX and then the flag to VF: the order of the additions and subtractions (R127, R128, R131). -/
theorem complete_setV_setFlag (s : State) (x : Reg) (v flag : Byte) :
    ∃ t, complete ((s.setV x v).setFlag flag).advance = .next t ∧ (x ≠ 0xF → t.V x = v) ∧ t.V 0xF = flag ∧
      SameRegistersBut (fun r => r = x ∨ r = 0xF) s t ∧
      t.programCounter = s.programCounter + 2 ∧ t.report = .executed ∧ OnlyRegistersChange s t := by
  obtain ⟨t, ht, hF, hx, hframe⟩ := complete_setV_setV s x 0xF v flag
  exact ⟨t, ht, hx, hF, hframe⟩

/-- The flag to VF and then the result to VX: the order of the shifts (R130, R132). -/
theorem complete_setFlag_setV (s : State) (x : Reg) (flag v : Byte) :
    ∃ t, complete ((s.setFlag flag).setV x v).advance = .next t ∧ t.V x = v ∧ (x ≠ 0xF → t.V 0xF = flag) ∧
      SameRegistersBut (fun r => r = x ∨ r = 0xF) s t ∧
      t.programCounter = s.programCounter + 2 ∧ t.report = .executed ∧ OnlyRegistersChange s t := by
  obtain ⟨t, ht, hx, hF, hsame, hframe⟩ := complete_setV_setV s 0xF x flag v
  exact ⟨t, ht, hx, fun hxF => hF hxF.symm, fun r hr => hsame r fun h => hr h.symm, hframe⟩

/-! ### The meanings, one equation each -/

section

variable (x y : Reg) (nn : Byte) (s : State)

theorem exec_op6XNN : exec (.op6XNN x nn) s = complete (s.setV x nn).advance := rfl

theorem exec_op7XNN : exec (.op7XNN x nn) s = complete (s.setV x (s.V x + nn)).advance := rfl

theorem exec_op8XY0 : exec (.op8XY0 x y) s = complete (s.setV x (s.V y)).advance := rfl

theorem exec_op8XY1 : exec (.op8XY1 x y) s = complete (s.setV x (s.V x ||| s.V y)).advance := rfl

theorem exec_op8XY2 : exec (.op8XY2 x y) s = complete (s.setV x (s.V x &&& s.V y)).advance := rfl

theorem exec_op8XY3 : exec (.op8XY3 x y) s = complete (s.setV x (s.V x ^^^ s.V y)).advance := rfl

theorem exec_op8XY4 : exec (.op8XY4 x y) s =
    complete ((s.setV x (s.V x + s.V y)).setFlag (carryFlag (s.V x) (s.V y))).advance := rfl

theorem exec_op8XY5 : exec (.op8XY5 x y) s =
    complete ((s.setV x (s.V x - s.V y)).setFlag (notBorrowFlag (s.V x) (s.V y))).advance := rfl

/-- What 8XY6 shifts is VX as the flag's write left it: the flag itself when X is F (conflict C2). -/
theorem exec_op8XY6 : exec (.op8XY6 x y) s =
    complete ((s.setFlag (shiftRightFlag (s.V x))).setV x
      ((s.setFlag (shiftRightFlag (s.V x))).V x >>> 1)).advance := rfl

theorem exec_op8XY7 : exec (.op8XY7 x y) s =
    complete ((s.setV x (s.V y - s.V x)).setFlag (notBorrowFlag (s.V y) (s.V x))).advance := rfl

/-- What 8XYE shifts is VX as the flag's write left it: the flag itself when X is F (conflict C2). -/
theorem exec_op8XYE : exec (.op8XYE x y) s =
    complete ((s.setFlag (shiftLeftFlag (s.V x))).setV x
      ((s.setFlag (shiftLeftFlag (s.V x))).V x <<< 1)).advance := rfl

end

/-! ### The immediates and the logic (R121 to R126) -/

/-- Settles O40: both complete with one register write. -/
theorem immediateLoadAndAdd : Obligations.ImmediateLoadAndAdd := by
  refine ⟨fun _ => ⟨decode_eq_op6XNN, decode_eq_op7XNN⟩, fun s x nn => ⟨?_, ?_⟩⟩
  · simpa only [exec_op6XNN] using complete_setV s x nn
  · obtain ⟨t, ht, hx, hframe⟩ := complete_setV s x (s.V x + nn)
    exact ⟨t, (exec_op7XNN x nn s).trans ht, by rw [hx, BitVec.toNat_add], hframe⟩

/-- Settles O41: each completes with one register write, whose bits are those of the bitwise operation. -/
theorem copyAndLogicWriteVX : Obligations.CopyAndLogicWriteVX := by
  refine ⟨fun op hg => ?_, fun s x y => ⟨?_, ?_, ?_, ?_⟩⟩
  · have hd {n : BitVec 4} := decode_eq_decodeGroup8_of_n (n := n) hg
    exact ⟨hd, hd, hd, hd⟩
  · simpa only [exec_op8XY0] using complete_setV s x (s.V y)
  · obtain ⟨t, ht, hx, hframe⟩ := complete_setV s x (s.V x ||| s.V y)
    exact ⟨t, (exec_op8XY1 x y s).trans ht, fun b _ => by rw [hx, BitVec.getLsbD_or], hframe⟩
  · obtain ⟨t, ht, hx, hframe⟩ := complete_setV s x (s.V x &&& s.V y)
    exact ⟨t, (exec_op8XY2 x y s).trans ht, fun b _ => by rw [hx, BitVec.getLsbD_and], hframe⟩
  · obtain ⟨t, ht, hx, hframe⟩ := complete_setV s x (s.V x ^^^ s.V y)
    exact ⟨t, (exec_op8XY3 x y s).trans ht, fun b _ => by rw [hx, BitVec.getLsbD_xor], hframe⟩

/-! ### The sum and the differences (R127, R128, R131) -/

/-- Settles O42: the sum is written first, and the carry is computed from the operands as they were. -/
theorem addWritesCarry : Obligations.AddWritesCarry := by
  refine ⟨fun _ hg => decode_eq_decodeGroup8_of_n hg, fun s x y => ?_⟩
  obtain ⟨t, ht, hx, hF, hframe⟩ := complete_setV_setFlag s x (s.V x + s.V y) (carryFlag (s.V x) (s.V y))
  refine ⟨t, (exec_op8XY4 x y s).trans ht, fun hxF => ?_, ?_, hframe⟩
  · rw [hx hxF, BitVec.toNat_add]
  · rw [hF, carryFlag_toNat]

/-- A completed subtraction, whichever operand is the minuend `a`. -/
theorem complete_sub_notBorrow (s : State) (x : Reg) (a b : Byte) :
    ∃ t, complete ((s.setV x (a - b)).setFlag (notBorrowFlag a b)).advance = .next t ∧
      (x ≠ 0xF → ((t.V x).toNat : Int) = ((a.toNat : Int) - b.toNat) % 256) ∧
      (t.V 0xF).toNat = (if a.toNat < b.toNat then 0 else 1) ∧
      SameRegistersBut (fun r => r = x ∨ r = 0xF) s t ∧
      t.programCounter = s.programCounter + 2 ∧ t.report = .executed ∧ OnlyRegistersChange s t := by
  obtain ⟨t, ht, hx, hF, hframe⟩ := complete_setV_setFlag s x (a - b) (notBorrowFlag a b)
  refine ⟨t, ht, fun hxF => ?_, ?_, hframe⟩
  · rw [hx hxF, sub_toNat_eq_emod]
  · rw [hF, notBorrowFlag_toNat]

/-- Settles O43: 8XY5 and 8XY7 are one subtraction with the operands exchanged. -/
theorem subtractsWriteNotBorrow : Obligations.SubtractsWriteNotBorrow := by
  refine ⟨fun _ hg => ⟨decode_eq_decodeGroup8_of_n hg, decode_eq_decodeGroup8_of_n hg⟩, fun s x y => ⟨?_, ?_⟩⟩
  · simpa only [exec_op8XY5] using complete_sub_notBorrow s x (s.V x) (s.V y)
  · simpa only [exec_op8XY7] using complete_sub_notBorrow s x (s.V y) (s.V x)

/-! ### The shifts (R130, R132) -/

/-- Settles O44: the flag is written before VX, so with X = F the shift is of the flag, and otherwise of the old VX. -/
theorem shiftsWriteFlagFirst : Obligations.ShiftsWriteFlagFirst := by
  refine ⟨fun _ hg => ⟨decode_eq_decodeGroup8_of_n hg, decode_eq_decodeGroup8_of_n hg⟩, fun s x y => ⟨?_, ?_⟩⟩
  · obtain ⟨t, ht, hx, hF, hframe⟩ := complete_setFlag_setV s x (shiftRightFlag (s.V x))
      ((s.setFlag (shiftRightFlag (s.V x))).V x >>> 1)
    refine ⟨t, (exec_op8XY6 x y s).trans ht, fun hxF => ⟨?_, ?_⟩, fun hxF => ?_, hframe⟩
    · rw [hx, setFlag_V_of_ne s hxF, shiftRight_one_toNat]
    · rw [hF hxF, shiftRightFlag_toNat]
    · subst hxF
      rw [hx, setFlag_V_flag, shiftRight_one_toNat, shiftRightFlag_toNat]
      omega
  · obtain ⟨t, ht, hx, hF, hframe⟩ := complete_setFlag_setV s x (shiftLeftFlag (s.V x))
      ((s.setFlag (shiftLeftFlag (s.V x))).V x <<< 1)
    refine ⟨t, (exec_op8XYE x y s).trans ht, fun hxF => ⟨?_, ?_⟩, fun hxF => ?_, hframe⟩
    · rw [hx, setFlag_V_of_ne s hxF, shiftLeft_one_toNat]
    · rw [hF hxF, shiftLeftFlag_toNat]
    · subst hxF
      have hlt := (s.V 0xF).isLt
      rw [hx, setFlag_V_flag, shiftLeft_one_toNat, shiftLeftFlag_toNat]
      split <;> omega

end Sys2Proof.Machine
end

/-! ## Proofs: address register and memory (spec/44_index_memory.md) -/

section

namespace Sys2Proof

/-! ### The dispatch of groups A and F (R71, R72) -/

theorem decode_eq_opANNN {op : Word} (hg : (decodeFields op).instruction = 0xA) :
    decode op = .ok (.opANNN (decodeFields op).nnn) := by
  simp only [decode, hg]; rfl

/-- Group F with its NN known: for a literal `nn` the right side computes to the instruction R71 lists, or to the
rejection. -/
theorem decode_eq_decodeGroupF_of_nn {op : Word} {nn : Byte} (hg : (decodeFields op).instruction = 0xF)
    (hnn : (decodeFields op).nn = nn) : decode op = decodeGroupF op { decodeFields op with nn := nn } := by
  rw [decode_eq_decodeGroupF hg, ← hnn]

end Sys2Proof

namespace Sys2Proof.Machine

/-- Five times a byte is at most 1275, so the 16-bit product never wraps (R143). -/
theorem fontAddress_toNat (v : Byte) : (fontAddress v).toNat = v.toNat * 5 := by
  have hno_wrap : v.toNat * 5 < 2 ^ 16 := by have hv := v.isLt; omega
  calc (fontAddress v).toNat
      = (offsetOf v).toNat * 5 % 2 ^ 16 := BitVec.toNat_mul ..
    _ = v.toNat * 5 % 2 ^ 16 := by rw [offsetOf_toNat]
    _ = v.toNat * 5 := Nat.mod_eq_of_lt hno_wrap

/-! ### A completed index instruction -/

/-- A write of I, of pc and of the report is within the frame of the index instructions. -/
theorem onlyIndexChanges_setI_setPc (s : State) (v pc : Word) (r : Report) :
    OnlyIndexChanges s (((s.setI v).setPc pc).setReport r) := by
  simp [OnlyIndexChanges, SameMemory, SameRegisters, SameTimers, SameConfig, SameCollaborators]

/-- A completed write of I: I holds `v`, pc is two on, and `Executed` is reported. -/
theorem complete_setI (s : State) (v : Word) :
    ∃ t, complete (s.setI v).advance = .next t ∧ t.addressRegister = v ∧
      t.programCounter = s.programCounter + 2 ∧ t.report = .executed ∧ OnlyIndexChanges s t :=
  ⟨_, rfl, rfl, rfl, rfl, onlyIndexChanges_setI_setPc s v (s.programCounter + 2) .executed⟩

/-! ### The index loads (R141, R143) -/

theorem exec_opANNN (nnn : Addr12) (s : State) :
    exec (.opANNN nnn) s = complete (s.setI (addressOf nnn)).advance := rfl

theorem exec_opFX29 (x : Reg) (s : State) :
    exec (.opFX29 x) s = complete (s.setI (fontAddress (s.V x))).advance := rfl

/-- Settles O46: both complete with one write of I, by the zero-extended NNN or by a product that does not wrap. -/
theorem indexLoads : Obligations.IndexLoads := by
  refine ⟨fun _ => ⟨decode_eq_opANNN, fun hg hnn => decode_eq_decodeGroupF_of_nn hg hnn⟩,
    fun s x nnn => ⟨?_, ?_⟩⟩
  · obtain ⟨t, ht, hI, hframe⟩ := complete_setI s (addressOf nnn)
    exact ⟨t, (exec_opANNN nnn s).trans ht, by rw [hI, addressOf_toNat], hframe⟩
  · obtain ⟨t, ht, hI, hframe⟩ := complete_setI s (fontAddress (s.V x))
    exact ⟨t, (exec_opFX29 x s).trans ht, by rw [hI, fontAddress_toNat], hframe⟩

end Sys2Proof.Machine
end

/-! ## Proofs: display (spec/45_display.md) -/

section

namespace Sys2Proof

/-! ### The one encoding of 00E0 (R67) -/

theorem decode_00E0 : decode 0x00E0 = .ok .op00E0 := rfl

end Sys2Proof

namespace Sys2Proof.Machine

/-! ### A completed call of a collaborator -/

/-- The end of an instruction that calls a collaborator, a write of pc and of the report, stays within the frame. -/
theorem onlyCallsChange_setPc_setReport {s u : State} (h : OnlyCallsChange s u) (pc : Word) (r : Report) :
    OnlyCallsChange s ((u.setPc pc).setReport r) := by
  simpa [OnlyCallsChange, SameMemory, SameTimers, SameConfig] using h

theorem onlyCallsChange_callClear (s : State) : OnlyCallsChange s s.callClear := by
  simp [OnlyCallsChange, SameMemory, SameTimers, SameConfig]

/-! ### 00E0 (R151) -/

theorem exec_op00E0 (s : State) : exec .op00E0 s = complete s.callClear.advance := rfl

/-- Settles O51: 00E0 completes with one recorded call, which takes no answer and is within the frame of the calls. -/
theorem clearDisplayCallsOnce : Obligations.ClearDisplayCallsOnce := by
  refine ⟨fun op hop => hop ▸ decode_00E0, fun s => ?_⟩
  have hframe := onlyCallsChange_setPc_setReport (onlyCallsChange_callClear s) (s.programCounter + 2) .executed
  have hregisters : SameRegisters s (s.callClear.advance.setReport .executed) := fun r => by simp
  exact ⟨s.callClear.advance.setReport .executed, exec_op00E0 s, rfl, hregisters, rfl, rfl, hframe,
    rfl, rfl, rfl, rfl, rfl⟩

end Sys2Proof.Machine
end

/-! ## Proofs: timers (spec/47_timers.md) -/

section

namespace Sys2Proof.Machine

/-! ### The end of a cycle (R80, R170) -/

/-- A cycle that runs `i` answers a next state exactly when `i` does, and ends the cycle on it. -/
theorem step_eq_next_of_runs {s t : State} {i : Instr} (hruns : s.Runs i) :
    step s = .next t ↔ ∃ u, exec i s = .next u ∧ t = u.endCycle := by
  obtain ⟨hpc, hdecode⟩ := hruns
  have hfetch : fetch s = .ok s.opcode := fetch_eq_ok.mpr ⟨hpc, rfl⟩
  simp only [step, hfetch, hdecode]
  split
  · next u he => simp [he, eq_comm]
  · next f he => simp [he]
  · next r he => simp [he]

theorem endCycle_of_executed {s : State} (hreport : s.report = .executed) : s.endCycle = s.tick := by
  simp only [State.endCycle, hreport]

theorem endCycle_of_waiting {s : State} (hreport : s.report = .waiting) : s.endCycle = s := by
  simp only [State.endCycle, hreport]

/-- An instruction that completes is followed by the tick (R88). -/
theorem step_eq_tick_of_exec {s t : State} {i : Instr} (hruns : s.Runs i) (hexec : exec i s = .next t)
    (hreport : t.report = .executed) : step s = .next t.tick :=
  (step_eq_next_of_runs hruns).mpr ⟨t, hexec, (endCycle_of_executed hreport).symm⟩

/-! ### The meanings, one equation each (R171 to R173) -/

theorem exec_opFX07 (x : Reg) (s : State) :
    exec (.opFX07 x) s = complete (s.setV x (s.fromTicks s.delayTimer)).advance := rfl

theorem exec_opFX15 (x : Reg) (s : State) :
    exec (.opFX15 x) s = complete (s.setDelay (s.heldTicks (s.toTicks (s.V x)))).advance := rfl

theorem exec_opFX18 (x : Reg) (s : State) :
    exec (.opFX18 x) s = complete (s.setSound (s.heldTicks (s.toTicks (s.V x)))).advance := rfl

theorem exec_opFX15_eq_next {x : Reg} {s t : State} :
    exec (.opFX15 x) s = .next t ↔
      t = (s.setDelay (s.heldTicks (s.toTicks (s.V x)))).advance.setReport .executed :=
  complete_eq_next

theorem exec_opFX18_eq_next {x : Reg} {s t : State} :
    exec (.opFX18 x) s = .next t ↔
      t = (s.setSound (s.heldTicks (s.toTicks (s.V x)))).advance.setReport .executed :=
  complete_eq_next

/-! ### FX15 and FX18 (R172, R173) -/

theorem exec_opFX15_delayTimer {x : Reg} {s t : State} (h : exec (.opFX15 x) s = .next t)
    (hwidth : timerBitsWellFormed s.timerScaler s.timerBits = true) :
    t.delayTimer = (s.V x).toNat * s.timerScaler := by
  rw [exec_opFX15_eq_next.mp h]
  exact State.heldTicks_toTicks hwidth (s.V x)

theorem exec_opFX18_soundTimer {x : Reg} {s t : State} (h : exec (.opFX18 x) s = .next t)
    (hwidth : timerBitsWellFormed s.timerScaler s.timerBits = true) :
    t.soundTimer = (s.V x).toNat * s.timerScaler := by
  rw [exec_opFX18_eq_next.mp h]
  exact State.heldTicks_toTicks hwidth (s.V x)

/-- A completed write of both timers and nothing else. With `sound := s.soundTimer` it is a write of DT alone, with
`delay := s.delayTimer` one of ST alone. -/
theorem complete_setTimers (s : State) (delay sound : Nat) :
    ∃ t, complete ((s.setDelay delay).setSound sound).advance = .next t ∧
      t.delayTimer = delay ∧ t.soundTimer = sound ∧ SameRegisters s t ∧ SameMemory s t ∧
      t.addressRegister = s.addressRegister ∧ t.stack = s.stack ∧ SameConfig s t ∧ SameCollaborators s t ∧
      t.programCounter = s.programCounter + 2 ∧ t.report = .executed :=
  ⟨_, rfl, rfl, rfl, fun _ => rfl, fun _ => rfl, rfl, rfl, ⟨rfl, rfl, rfl, rfl⟩, ⟨rfl, rfl, rfl, rfl, rfl, rfl⟩, rfl,
    rfl⟩

/-- Settles O56: each completes with one timer written, by a value the timer's width holds, and the tick follows. -/
theorem timersSetInTicks : Obligations.TimersSetInTicks := by
  refine ⟨fun _ hg => ⟨decode_eq_decodeGroupF_of_nn hg, decode_eq_decodeGroupF_of_nn hg⟩, fun s x => ⟨?_, ?_⟩⟩
  · obtain ⟨t, ht, hdelay, hsound, hregs, hmem, hI, hstack, hconfig, hcollab, hpc, hreport⟩ :=
      complete_setTimers s (s.heldTicks (s.toTicks (s.V x))) s.soundTimer
    have hexec : exec (.opFX15 x) s = .next t := (exec_opFX15 x s).trans ht
    exact ⟨t, hexec, hdelay ▸ s.heldTicks_lt _, exec_opFX15_delayTimer hexec, hsound,
      hregs, hmem, hI, hstack, hconfig, hcollab, hpc, hreport,
      fun hruns => ⟨t.tick, step_eq_tick_of_exec hruns hexec hreport, t.tick_delayTimer⟩⟩
  · obtain ⟨t, ht, hdelay, hsound, hregs, hmem, hI, hstack, hconfig, hcollab, hpc, hreport⟩ :=
      complete_setTimers s s.delayTimer (s.heldTicks (s.toTicks (s.V x)))
    have hexec : exec (.opFX18 x) s = .next t := (exec_opFX18 x s).trans ht
    exact ⟨t, hexec, hsound ▸ s.heldTicks_lt _, exec_opFX18_soundTimer hexec, hdelay,
      hregs, hmem, hI, hstack, hconfig, hcollab, hpc, hreport,
      fun hruns => ⟨t.tick, step_eq_tick_of_exec hruns hexec hreport, t.tick_soundTimer⟩⟩

/-! ### FX07 (R171) -/

/-- The quotient rounded up is the least number of units that cover `a` (R14). -/
theorem ceilDiv_le_iff {a b c : Nat} (hb : 1 ≤ b) : ceilDiv a b ≤ c ↔ a ≤ c * b := by
  rw [ceilDiv, Nat.div_le_iff_le_mul hb]
  omega

/-- The units that cover `a` exceed it by less than one unit. -/
theorem ceilDiv_mul_lt {a b : Nat} (hb : 1 ≤ b) : ceilDiv a b * b < a + b := by
  have hle : ceilDiv a b * b ≤ a + b - 1 := Nat.div_mul_le_self _ _
  omega

/-- In the legal ranges the quotient fits a register (R36, R134). -/
theorem fromTicks_toNat {s : State} {ticks : Nat} (hscaler : 1 ≤ s.timerScaler)
    (hticks : ticks ≤ 255 * s.timerScaler) : (s.fromTicks ticks).toNat = ceilDiv ticks s.timerScaler := by
  have hfits : ceilDiv ticks s.timerScaler ≤ 255 := (ceilDiv_le_iff hscaler).mpr hticks
  rw [State.fromTicks, if_pos ⟨hscaler, hticks⟩, BitVec.toNat_ofNat]
  omega

/-- Settles O55: FX07 completes with one register write, of a quotient rounded up that fits a byte. -/
theorem delayTimerReadRoundsUp : Obligations.DelayTimerReadRoundsUp := by
  refine ⟨fun _ hg hnn => decode_eq_decodeGroupF_of_nn hg hnn, fun s x hscaler hdelay => ?_⟩
  obtain ⟨t, ht, hx, hregs, hpc, hreport, hframe⟩ := complete_setV s x (s.fromTicks s.delayTimer)
  have hexec : exec (.opFX07 x) s = .next t := (exec_opFX07 x s).trans ht
  have hread : (t.V x).toNat = ceilDiv s.delayTimer s.timerScaler := by rw [hx, fromTicks_toNat hscaler hdelay]
  have hleast (units : Nat) : (t.V x).toNat ≤ units ↔ s.delayTimer ≤ units * s.timerScaler :=
    hread ▸ ceilDiv_le_iff hscaler
  have hcovers : s.delayTimer ≤ (t.V x).toNat * s.timerScaler := (hleast _).mp le_rfl
  have hwithin : (t.V x).toNat * s.timerScaler < s.delayTimer + s.timerScaler := hread ▸ ceilDiv_mul_lt hscaler
  refine ⟨t, hexec, hcovers, hwithin, ?_, fun hone => ?_, hregs, hpc, hreport, hframe, fun hruns => ?_⟩
  · simpa using hleast 0
  · rw [hone] at hcovers hwithin
    omega
  · obtain ⟨-, -, -, ⟨hkept, -⟩, -⟩ := hframe
    exact ⟨t.tick, step_eq_tick_of_exec hruns hexec hreport, t.tick_V x, by rw [State.tick_delayTimer, hkept]⟩

/-! ### No other instruction writes a timer (R34) -/

theorem sameTimers_of_complete {s e u : State} (h : complete e = .next u) (he : SameTimers s e) : SameTimers s u :=
  complete_eq_next.mp h ▸ he

theorem sameTimers_of_withSpan {s e u : State} {n : Nat} (h : withSpan s n e = .next u) (he : SameTimers s e) :
    SameTimers s u := by
  obtain ⟨-, rfl⟩ := withSpan_eq_next.mp h
  exact he

/-- By how each instruction ends: a pop or a push may fault, an access of memory is checked, FX0A may wait, and the
others complete. -/
theorem exec_sameTimers {s u : State} {i : Instr} (h : exec i s = .next u) (hFX15 : ∀ x, i ≠ .opFX15 x)
    (hFX18 : ∀ x, i ≠ .opFX18 x) : SameTimers s u := by
  cases i
  case opFX15 x => exact absurd rfl (hFX15 x)
  case opFX18 x => exact absurd rfl (hFX18 x)
  case op00EE =>
    simp only [exec, exec00EE] at h
    split at h
    · exact absurd h raise_ne_next
    · exact sameTimers_of_complete h ⟨rfl, rfl⟩
  case op2NNN nnn =>
    simp only [exec, exec2NNN] at h
    split at h
    · exact absurd h raise_ne_next
    · exact sameTimers_of_complete h ⟨rfl, rfl⟩
  case opFX0A x =>
    obtain rfl : s.afterKey x s.anyKeyAnswer = u := Host.Outcome.next.inj h
    exact ⟨State.afterKey_delayTimer .., State.afterKey_soundTimer ..⟩
  case opDXYN | opFX33 | opFX55 | opFX65 => exact sameTimers_of_withSpan h (by simp [SameTimers])
  all_goals exact sameTimers_of_complete h (by simp [SameTimers])

theorem exec_delayTimer {s u : State} {i : Instr} (h : exec i s = .next u) (hFX15 : ∀ x, i ≠ .opFX15 x) :
    u.delayTimer = s.delayTimer := by
  by_cases hFX18 : ∃ x, i = .opFX18 x
  · obtain ⟨x, rfl⟩ := hFX18
    rw [exec_opFX18_eq_next.mp h]
    rfl
  · exact (exec_sameTimers h hFX15 (not_exists.mp hFX18)).1

theorem exec_soundTimer {s u : State} {i : Instr} (h : exec i s = .next u) (hFX18 : ∀ x, i ≠ .opFX18 x) :
    u.soundTimer = s.soundTimer := by
  by_cases hFX15 : ∃ x, i = .opFX15 x
  · obtain ⟨x, rfl⟩ := hFX15
    rw [exec_opFX15_eq_next.mp h]
    rfl
  · exact (exec_sameTimers h (not_exists.mp hFX15) hFX18).2

/-! ### The tick of the cycle (R88, R170) -/

/-- The instructions that write a timer complete, so a wait keeps both. -/
theorem exec_sameTimers_of_waiting {s u : State} {i : Instr} (h : exec i s = .next u) (hreport : u.report = .waiting) :
    SameTimers s u := by
  refine exec_sameTimers h ?_ ?_
  · rintro x rfl
    simp [exec_opFX15_eq_next.mp h] at hreport
  · rintro x rfl
    simp [exec_opFX18_eq_next.mp h] at hreport

/-- Settles O16: the instruction's own writes of the timers are FX15's and FX18's, and the tick follows them. -/
theorem timersTickAfterExecutedCycle : Obligations.TimersTickAfterExecutedCycle := by
  intro s t i hruns hstep
  obtain ⟨u, hexec, rfl⟩ := (step_eq_next_of_runs hruns).mp hstep
  rw [State.endCycle_report]
  refine ⟨fun hexecuted => ?_, fun hwaiting => ?_⟩
  · rw [endCycle_of_executed hexecuted, State.tick_delayTimer, State.tick_soundTimer]
    refine ⟨fun hFX15 => by rw [exec_delayTimer hexec hFX15], fun hFX18 => by rw [exec_soundTimer hexec hFX18],
      fun hwidth => ⟨?_, ?_⟩⟩
    · rintro x rfl
      rw [exec_opFX15_delayTimer hexec hwidth]
    · rintro x rfl
      rw [exec_opFX18_soundTimer hexec hwidth]
  · rw [endCycle_of_waiting hwaiting]
    exact exec_sameTimers_of_waiting hexec hwaiting

end Sys2Proof.Machine
end

/-! ## Proofs: the faults' messages and the collaborators (spec/60_exceptions.md) -/

section

namespace Sys2Proof.Machine

/-! ### The message of UnknownOpcode (R183) -/

theorem hexDigit_listed {d : Nat} (hd : d < 16) : "0123456789ABCDEF".toList[d]? = some (hexDigit d) := by
  have hall : ∀ k : Fin 16, "0123456789ABCDEF".toList[k.val]? = some (hexDigit k.val) := by decide
  exact hall ⟨d, hd⟩

/-- The digits of an opcode are its four nibbles, the most significant first (R62). -/
theorem hexWord_eq_nibbles (op : Word) :
    hexWord op =
      [hexDigit (decodeFields op).instruction.toNat, hexDigit (decodeFields op).x.toNat,
        hexDigit (decodeFields op).y.toNat, hexDigit (decodeFields op).n.toNat] := by
  simp [hexWord, decodeFields, Nat.shiftRight_eq_div_pow]

theorem message_unknownOpcode (op : Word) :
    (Fault.unknownOpcode op).message = some ("Unknown optcode 0x" ++ String.ofList (hexWord op)) := by
  rw [Fault.message, String.ofList_append, String.ofList_toList]

/-- Settles O12: the message ends in the opcode's four nibbles, each written as its digit. -/
theorem unknownOpcodeMessage : Obligations.UnknownOpcodeMessage := by
  refine ⟨fun op => ⟨_, _, _, _, ?_, hexDigit_listed (decodeFields op).instruction.isLt,
    hexDigit_listed (decodeFields op).x.isLt, hexDigit_listed (decodeFields op).y.isLt,
    hexDigit_listed (decodeFields op).n.isLt⟩, by decide⟩
  rw [message_unknownOpcode, hexWord_eq_nibbles]

/-! ### The calls of an instruction (R190 to R194) -/

/-- The calls that flip a list of pixels, one a pixel in order (R191). -/
def State.flipCalls (s : State) (pixels : List (Nat × Nat)) : List Call :=
  List.zipWith (fun p on => .flip p.1 p.2 on) pixels (s.flipAnswers pixels.length)

/-- The call that asks whether a key is pressed, and none when no key is named (R160, R192). -/
def State.pressedCalls (s : State) : Option Key → List Call
  | none => []
  | some k => [.pressed k s.pressedAnswer]

/-- The calls one run of an instruction makes, with the answers they get in `s`. -/
def State.callsMade (s : State) : Instr → List Call
  | .op00E0 => [.clear]
  | .opCXNN _ _ => [.random s.randomAnswer]
  | .opDXYN x y n => s.flipCalls
      (spritePixels (s.V x).toNat (s.V y).toNat (s.memory.readBytes s.addressRegister.toNat n.toNat))
  | .opEX9E x => s.pressedCalls (s.keyIndex x)
  | .opEXA1 x => s.pressedCalls (s.keyIndex x)
  | .opFX0A _ => [.anyKey s.anyKeyAnswer]
  | _ => []

@[simp] theorem State.flipAll_calls (s : State) (pixels : List (Nat × Nat)) :
    (s.flipAll pixels).2.calls = s.calls ++ s.flipCalls pixels := by
  rw [State.flipAll_state, State.flipCalls]

@[simp] theorem State.askKey_calls (s : State) (key : Option Key) :
    (s.askKey key).2.calls = s.calls ++ s.pressedCalls key := by
  cases key
  case none => exact (List.append_nil _).symm
  case some k => rfl

theorem State.exists_flip_of_mem_flipCalls {s : State} {pixels : List (Nat × Nat)} {c : Call}
    (hc : c ∈ s.flipCalls pixels) : ∃ px py on, c = .flip px py on := by
  rw [State.flipCalls, ← List.map_uncurry_zip_eq_zipWith] at hc
  obtain ⟨⟨⟨px, py⟩, on⟩, -, rfl⟩ := List.mem_map.mp hc
  exact ⟨px, py, on, rfl⟩

theorem State.mem_pressedCalls {s : State} {key : Option Key} {c : Call} (hc : c ∈ s.pressedCalls key) :
    ∃ k, c = .pressed k s.pressedAnswer ∧ s.pressedCalls key = [c] := by
  cases key
  case none => exact absurd hc List.not_mem_nil
  case some k =>
    obtain rfl := List.mem_singleton.mp hc
    exact ⟨k, rfl, rfl⟩

theorem calls_of_complete {e u : State} (h : complete e = .next u) : u.calls = e.calls :=
  complete_eq_next.mp h ▸ rfl

theorem calls_of_withSpan {s e u : State} {n : Nat} (h : withSpan s n e = .next u) : u.calls = e.calls := by
  obtain ⟨-, rfl⟩ := withSpan_eq_next.mp h
  rfl

/-- An instruction that answers a next state has added its calls to the trace, and nothing else. The cases are those of
how an instruction ends. -/
theorem exec_calls {s u : State} {i : Instr} (h : exec i s = .next u) : u.calls = s.calls ++ s.callsMade i := by
  cases i
  case op00EE | op2NNN =>
    simp only [exec, exec00EE, exec2NNN] at h
    split at h
    · exact absurd h raise_ne_next
    · rw [calls_of_complete h]
      exact (List.append_nil _).symm
  case opFX0A x =>
    obtain rfl : s.afterKey x s.anyKeyAnswer = u := Host.Outcome.next.inj h
    exact State.afterKey_calls ..
  case opDXYN | opFX33 | opFX55 | opFX65 =>
    rw [calls_of_withSpan h]
    simp [State.callsMade]
  all_goals
    rw [calls_of_complete h]
    simp [State.callsMade]

/-- Settles O27: a cycle adds the calls of its instruction, and each of those calls is of the kind the instruction
makes. -/
theorem callsMadeOnlyByTheirInstructions : Obligations.CallsMadeOnlyByTheirInstructions := by
  intro s t i hruns hstep
  obtain ⟨u, hexec, rfl⟩ := (step_eq_next_of_runs hruns).mp hstep
  refine ⟨s.callsMade i, u.endCycle_calls.trans (exec_calls hexec), fun c hc => ?_⟩
  cases i
  case op00E0 =>
    obtain rfl := List.mem_singleton.mp hc
    exact ⟨rfl, rfl⟩
  case opCXNN x nn =>
    obtain rfl := List.mem_singleton.mp hc
    exact ⟨⟨x, nn, rfl⟩, rfl⟩
  case opDXYN x y n =>
    obtain ⟨px, py, on, rfl⟩ := State.exists_flip_of_mem_flipCalls hc
    exact ⟨x, y, n, rfl⟩
  case opEX9E x =>
    obtain ⟨k, rfl, hmade⟩ := State.mem_pressedCalls hc
    exact ⟨⟨x, .inl rfl⟩, hmade⟩
  case opEXA1 x =>
    obtain ⟨k, rfl, hmade⟩ := State.mem_pressedCalls hc
    exact ⟨⟨x, .inr rfl⟩, hmade⟩
  case opFX0A x =>
    obtain rfl := List.mem_singleton.mp hc
    exact ⟨⟨x, rfl⟩, rfl⟩
  all_goals exact absurd hc List.not_mem_nil

end Sys2Proof.Machine
end

/-! ## Proofs: reset (spec/70_reset_and_hazards.md) -/

section

namespace Sys2Proof

/-- A legal scaler is not 0 (R36). -/
theorem Config.one_le_timerScaler {c : Config} (h : c.wellFormed = true) : 1 ≤ c.timerScaler := by
  simp only [Config.wellFormed, Bool.and_eq_true, decide_eq_true_eq] at h
  obtain ⟨⟨hscaler, -⟩, -⟩ := h
  exact hscaler

end Sys2Proof

namespace Sys2Proof.Machine

/-! ### The contents after reset (R200) -/

@[simp] theorem State.resetWith_read (c : Config) (a : Nat) : (State.resetWith c).memory.read a = 0 := rfl

@[simp] theorem State.resetWith_V (c : Config) (r : Reg) : (State.resetWith c).V r = 0 :=
  Vector.getElem_replicate r.isLt

@[simp] theorem State.resetWith_timerScaler (c : Config) : (State.resetWith c).timerScaler = c.timerScaler := rfl

/-- Settles O21: an empty list of cells reads 0 everywhere, the registers are copies of 0, and the scaler `State.reset`
takes is that of a legal configuration. -/
theorem resetZeroesState : Obligations.ResetZeroesState :=
  have hscaler : 1 ≤ State.reset.timerScaler := Config.one_le_timerScaler Config.core_wellFormed
  ⟨fun c => ⟨fun a _ => State.resetWith_read c a, State.resetWith_V c, rfl, rfl, rfl, rfl, rfl,
    State.resetWith_timerScaler c⟩, rfl, hscaler⟩

end Sys2Proof.Machine
end

/-! ## Proofs: decoder and encoder (spec/30_encoding.md) -/

section

namespace Sys2Proof

/-! ### The dispatch of the groups of one instruction (R67, R68, R72) -/

theorem decode_00EE : decode 0x00EE = .ok .op00EE := rfl

theorem decode_eq_op2NNN {op : Word} (hg : (decodeFields op).instruction = 0x2) :
    decode op = .ok (.op2NNN (decodeFields op).nnn) := by
  simp only [decode, hg]; rfl

theorem decode_eq_op5XY0 {op : Word} (hg : (decodeFields op).instruction = 0x5) :
    decode op = .ok (.op5XY0 (decodeFields op).x (decodeFields op).y (decodeFields op).n) := by
  simp only [decode, hg]; rfl

theorem decode_eq_op9XY0 {op : Word} (hg : (decodeFields op).instruction = 0x9) :
    decode op = .ok (.op9XY0 (decodeFields op).x (decodeFields op).y (decodeFields op).n) := by
  simp only [decode, hg]; rfl

theorem decode_eq_opCXNN {op : Word} (hg : (decodeFields op).instruction = 0xC) :
    decode op = .ok (.opCXNN (decodeFields op).x (decodeFields op).nn) := by
  simp only [decode, hg]; rfl

theorem decode_eq_opDXYN {op : Word} (hg : (decodeFields op).instruction = 0xD) :
    decode op = .ok (.opDXYN (decodeFields op).x (decodeFields op).y (decodeFields op).n) := by
  simp only [decode, hg]; rfl

theorem decode_eq_decodeGroup0 {op : Word} (hg : (decodeFields op).instruction = 0x0) :
    decode op = decodeGroup0 op := by
  simp only [decode, hg]; rfl

/-- Group E with its NN known: for a literal `nn` the right side computes to the instruction R70 lists, or to the
rejection. -/
theorem decode_eq_decodeGroupE_of_nn {op : Word} {nn : Byte} (hg : (decodeFields op).instruction = 0xE)
    (hnn : (decodeFields op).nn = nn) : decode op = decodeGroupE op { decodeFields op with nn := nn } := by
  rw [decode_eq_decodeGroupE hg, ← hnn]

/-! ### Decoding an encoded instruction (R64, R66 to R72) -/

/-- Settles O1: the fields of a packed opcode are the ones packed, and the dispatch on them computes. -/
theorem decodeOfEncode : Obligations.DecodeOfEncode := by
  intro i
  cases i
  case op00E0 | op00EE => rfl
  all_goals
    simp only [encode, decode, decodeFields_packNNN, decodeFields_packXNN, decodeFields_packXYN]
    rfl

/-- Settles O3: the two bytes make the opcode again, and the opcode decodes to its instruction. -/
theorem encodedBytesDecode : Obligations.EncodedBytesDecode := by
  intro i rest
  simp only [encodeBytes, List.cons_append, List.nil_append, decodeBytes, bigEndian_bytes, decodeOfEncode i]

/-! ### Encoding a decoded opcode (R64) -/

theorem packNNN_of_instruction {op : Word} {g : Nat} (hg : (decodeFields op).instruction.toNat = g) :
    packNNN (BitVec.ofNat 4 g) (decodeFields op).nnn = op := by
  rw [← hg, BitVec.ofNat_toNat, BitVec.setWidth_eq, packNNN_decodeFields]

theorem packXNN_of_instruction {op : Word} {g : Nat} (hg : (decodeFields op).instruction.toNat = g) :
    packXNN (BitVec.ofNat 4 g) (decodeFields op).x (decodeFields op).nn = op := by
  rw [← hg, BitVec.ofNat_toNat, BitVec.setWidth_eq, packXNN_decodeFields]

theorem packXYN_of_instruction {op : Word} {g : Nat} (hg : (decodeFields op).instruction.toNat = g) :
    packXYN (BitVec.ofNat 4 g) (decodeFields op).x (decodeFields op).y (decodeFields op).n = op := by
  rw [← hg, BitVec.ofNat_toNat, BitVec.setWidth_eq, packXYN_decodeFields]

theorem packXNN_of_subCode {op : Word} {g nn : Nat} (hg : (decodeFields op).instruction.toNat = g)
    (hnn : (decodeFields op).nn.toNat = nn) :
    packXNN (BitVec.ofNat 4 g) (decodeFields op).x (BitVec.ofNat 8 nn) = op := by
  rw [← hnn, BitVec.ofNat_toNat, BitVec.setWidth_eq, packXNN_of_instruction hg]

theorem packXYN_of_subCode {op : Word} {g n : Nat} (hg : (decodeFields op).instruction.toNat = g)
    (hn : (decodeFields op).n.toNat = n) :
    packXYN (BitVec.ofNat 4 g) (decodeFields op).x (decodeFields op).y (BitVec.ofNat 4 n) = op := by
  rw [← hn, BitVec.ofNat_toNat, BitVec.setWidth_eq, packXYN_of_instruction hg]

theorem encode_of_decodeGroup0 {op : Word} {i : Instr} (h : decodeGroup0 op = .ok i) : encode i = op := by
  unfold decodeGroup0 at h
  split at h
  case h_3 => cases h
  all_goals
    next hop =>
      cases h
      exact BitVec.eq_of_toNat_eq hop.symm

theorem encode_of_decodeGroup8 {op : Word} {i : Instr} (hg : (decodeFields op).instruction.toNat = 0x8)
    (h : decodeGroup8 op (decodeFields op) = .ok i) : encode i = op := by
  unfold decodeGroup8 at h
  split at h
  case h_10 => cases h
  all_goals
    next hn =>
      cases h
      exact packXYN_of_subCode hg hn

theorem encode_of_decodeGroupE {op : Word} {i : Instr} (hg : (decodeFields op).instruction.toNat = 0xE)
    (h : decodeGroupE op (decodeFields op) = .ok i) : encode i = op := by
  unfold decodeGroupE at h
  split at h
  case h_3 => cases h
  all_goals
    next hnn =>
      cases h
      exact packXNN_of_subCode hg hnn

theorem encode_of_decodeGroupF {op : Word} {i : Instr} (hg : (decodeFields op).instruction.toNat = 0xF)
    (h : decodeGroupF op (decodeFields op) = .ok i) : encode i = op := by
  unfold decodeGroupF at h
  split at h
  case h_10 => cases h
  all_goals
    next hnn =>
      cases h
      exact packXNN_of_subCode hg hnn

/-- Settles O2: by the arms of the dispatch, each of whose instructions holds every field of the opcode but the ones its
arm has fixed. -/
theorem encodeOfDecode : Obligations.EncodeOfDecode := by
  intro op i h
  simp only [decode] at h
  split at h
  case h_1 hg => exact encode_of_decodeGroup0 h
  case h_9 hg => exact encode_of_decodeGroup8 hg h
  case h_15 hg => exact encode_of_decodeGroupE hg h
  case h_16 hg => exact encode_of_decodeGroupF hg h
  case h_17 => cases h
  case h_2 hg | h_3 hg | h_11 hg | h_12 hg => cases h; exact packNNN_of_instruction hg
  case h_4 hg | h_5 hg | h_7 hg | h_8 hg | h_13 hg => cases h; exact packXNN_of_instruction hg
  case h_6 hg | h_10 hg | h_14 hg => cases h; exact packXYN_of_instruction hg

/-- Settles O5: `packNNN` and `packXYN` of an opcode's fields are the opcode, and their sums do not wrap. -/
theorem fieldsReassemble : Obligations.FieldsReassemble := by
  intro op
  have hNNN := congrArg BitVec.toNat (packNNN_decodeFields op)
  have hXYN := congrArg BitVec.toNat (packXYN_decodeFields op)
  have hg := (decodeFields op).instruction.isLt
  have hx := (decodeFields op).x.isLt
  have hy := (decodeFields op).y.isLt
  have hn := (decodeFields op).n.isLt
  have hnnn := (decodeFields op).nnn.isLt
  rw [packNNN, BitVec.toNat_ofNat] at hNNN
  rw [packXYN, BitVec.toNat_ofNat] at hXYN
  omega

/-- Settles O7: nine words, decoded by evaluation. -/
theorem writtenOutOpcodesDecode : Obligations.WrittenOutOpcodesDecode := by
  unfold Obligations.WrittenOutOpcodesDecode
  decide

/-- Settles O8: 5XYk and 9XYk decode with their N as an operand, which no meaning reads. -/
theorem skipGroupsIgnoreN : Obligations.SkipGroupsIgnoreN :=
  fun _ _ => ⟨fun hg => ⟨_, decode_eq_op5XY0 hg, rfl⟩, fun hg => ⟨_, decode_eq_op9XY0 hg, rfl⟩⟩

/-! ### The opcodes that are no instruction (R67, R69 to R71, R75) -/

/-- The opcodes of groups 0, 8, E and F that the dispatch does not list. -/
def Unlisted (op : Word) : Prop :=
  ((decodeFields op).instruction = 0x0 ∧ op ≠ 0x00E0 ∧ op ≠ 0x00EE) ∨
  ((decodeFields op).instruction = 0x8 ∧
    (decodeFields op).n ∈ ([0x8, 0x9, 0xA, 0xB, 0xC, 0xD, 0xF] : List (BitVec 4))) ∨
  ((decodeFields op).instruction = 0xE ∧ (decodeFields op).nn ≠ 0x9E ∧ (decodeFields op).nn ≠ 0xA1) ∨
  ((decodeFields op).instruction = 0xF ∧
    (decodeFields op).nn ∉ ([0x07, 0x0A, 0x15, 0x18, 0x1E, 0x29, 0x33, 0x55, 0x65] : List Byte))

theorem decodeGroup0_error_cases {op : Word} {e : DecodeError} (h : decodeGroup0 op = .error e) :
    e = .unknownOpcode op ∧ op ≠ 0x00E0 ∧ op ≠ 0x00EE := by
  unfold decodeGroup0 at h
  split at h
  case h_3 hE0 hEE =>
    cases h
    exact ⟨rfl, fun hop => hE0 (congrArg BitVec.toNat hop), fun hop => hEE (congrArg BitVec.toNat hop)⟩
  all_goals cases h

theorem decodeGroup8_error_cases {op : Word} {f : Fields} {e : DecodeError} (h : decodeGroup8 op f = .error e) :
    e = .unknownOpcode op ∧ f.n ∈ ([0x8, 0x9, 0xA, 0xB, 0xC, 0xD, 0xF] : List (BitVec 4)) := by
  unfold decodeGroup8 at h
  split at h
  case h_10 =>
    cases h
    have hlt := f.n.isLt
    simp only [imp_false] at *
    simp only [List.mem_cons, List.not_mem_nil, or_false, ← BitVec.toNat_inj, BitVec.ofNat_eq_ofNat, BitVec.toNat_ofNat,
      true_and]
    omega
  all_goals cases h

theorem decodeGroupE_error_cases {op : Word} {f : Fields} {e : DecodeError} (h : decodeGroupE op f = .error e) :
    e = .unknownOpcode op ∧ f.nn ≠ 0x9E ∧ f.nn ≠ 0xA1 := by
  unfold decodeGroupE at h
  split at h
  case h_3 h9E hA1 =>
    cases h
    exact ⟨rfl, fun hnn => h9E (congrArg BitVec.toNat hnn), fun hnn => hA1 (congrArg BitVec.toNat hnn)⟩
  all_goals cases h

theorem decodeGroupF_error_cases {op : Word} {f : Fields} {e : DecodeError} (h : decodeGroupF op f = .error e) :
    e = .unknownOpcode op ∧ f.nn ∉ ([0x07, 0x0A, 0x15, 0x18, 0x1E, 0x29, 0x33, 0x55, 0x65] : List Byte) := by
  unfold decodeGroupF at h
  split at h
  case h_10 =>
    cases h
    simp only [imp_false] at *
    simp only [List.mem_cons, List.not_mem_nil, or_false, ← BitVec.toNat_inj, BitVec.ofNat_eq_ofNat, BitVec.toNat_ofNat,
      true_and]
    omega
  all_goals cases h

/-- A decode that fails names the opcode, which is one the dispatch does not list. -/
theorem decode_error_cases {op : Word} {e : DecodeError} (h : decode op = .error e) :
    e = .unknownOpcode op ∧ Unlisted op := by
  have hlt := (decodeFields op).instruction.isLt
  simp only [decode] at h
  split at h
  case h_1 hg =>
    obtain ⟨he, hop⟩ := decodeGroup0_error_cases h
    exact ⟨he, .inl ⟨BitVec.eq_of_toNat_eq hg, hop⟩⟩
  case h_9 hg =>
    obtain ⟨he, hn⟩ := decodeGroup8_error_cases h
    exact ⟨he, .inr (.inl ⟨BitVec.eq_of_toNat_eq hg, hn⟩)⟩
  case h_15 hg =>
    obtain ⟨he, hnn⟩ := decodeGroupE_error_cases h
    exact ⟨he, .inr (.inr (.inl ⟨BitVec.eq_of_toNat_eq hg, hnn⟩))⟩
  case h_16 hg =>
    obtain ⟨he, hnn⟩ := decodeGroupF_error_cases h
    exact ⟨he, .inr (.inr (.inr ⟨BitVec.eq_of_toNat_eq hg, hnn⟩))⟩
  case h_17 =>
    simp only [imp_false] at *
    omega
  all_goals cases h

theorem decodeGroup0_eq_error {op : Word} (hE0 : op ≠ 0x00E0) (hEE : op ≠ 0x00EE) :
    decodeGroup0 op = .error (.unknownOpcode op) := by
  unfold decodeGroup0
  split
  case h_1 hop => exact absurd (BitVec.eq_of_toNat_eq hop) hE0
  case h_2 hop => exact absurd (BitVec.eq_of_toNat_eq hop) hEE
  case h_3 => rfl

theorem decode_of_unlisted {op : Word} (h : Unlisted op) : decode op = .error (.unknownOpcode op) := by
  obtain ⟨hg, hE0, hEE⟩ | ⟨hg, hn⟩ | ⟨hg, h9E, hA1⟩ | ⟨hg, hnn⟩ := h
  · exact (decode_eq_decodeGroup0 hg).trans (decodeGroup0_eq_error hE0 hEE)
  · exact (decode_eq_decodeGroup8 hg).trans (decodeGroup8_eq_error hn)
  · exact (decode_eq_decodeGroupE hg).trans (decodeGroupE_eq_error h9E hA1)
  · exact (decode_eq_decodeGroupF hg).trans (decodeGroupF_eq_error hnn)

/-- The decoder rejects no opcode that the dispatch lists. -/
theorem unlisted_of_not_ok {op : Word} (h : ∀ i, decode op ≠ .ok i) : Unlisted op := by
  cases hd : decode op with
  | ok i => exact absurd hd (h i)
  | error e =>
    obtain ⟨-, hunlisted⟩ := decode_error_cases hd
    exact hunlisted

/-! ### The opcode table (R77) -/

/-- The row that bears an instruction's name matches its opcode: the constructors' lemmas of Laws/PerInstr together. -/
theorem matchesRow (i : Instr) : Laws.MatchesRow.Statement i := by
  cases i
  case op00E0 => exact Laws.MatchesRow.op00E0
  case op00EE => exact Laws.MatchesRow.op00EE
  case op1NNN => exact Laws.MatchesRow.op1NNN _
  case op2NNN => exact Laws.MatchesRow.op2NNN _
  case op3XNN => exact Laws.MatchesRow.op3XNN _ _
  case op4XNN => exact Laws.MatchesRow.op4XNN _ _
  case op5XY0 => exact Laws.MatchesRow.op5XY0 _ _ _
  case op6XNN => exact Laws.MatchesRow.op6XNN _ _
  case op7XNN => exact Laws.MatchesRow.op7XNN _ _
  case op8XY0 => exact Laws.MatchesRow.op8XY0 _ _
  case op8XY1 => exact Laws.MatchesRow.op8XY1 _ _
  case op8XY2 => exact Laws.MatchesRow.op8XY2 _ _
  case op8XY3 => exact Laws.MatchesRow.op8XY3 _ _
  case op8XY4 => exact Laws.MatchesRow.op8XY4 _ _
  case op8XY5 => exact Laws.MatchesRow.op8XY5 _ _
  case op8XY6 => exact Laws.MatchesRow.op8XY6 _ _
  case op8XY7 => exact Laws.MatchesRow.op8XY7 _ _
  case op8XYE => exact Laws.MatchesRow.op8XYE _ _
  case op9XY0 => exact Laws.MatchesRow.op9XY0 _ _ _
  case opANNN => exact Laws.MatchesRow.opANNN _
  case opBNNN => exact Laws.MatchesRow.opBNNN _
  case opCXNN => exact Laws.MatchesRow.opCXNN _ _
  case opDXYN => exact Laws.MatchesRow.opDXYN _ _ _
  case opEX9E => exact Laws.MatchesRow.opEX9E _
  case opEXA1 => exact Laws.MatchesRow.opEXA1 _
  case opFX07 => exact Laws.MatchesRow.opFX07 _
  case opFX0A => exact Laws.MatchesRow.opFX0A _
  case opFX15 => exact Laws.MatchesRow.opFX15 _
  case opFX18 => exact Laws.MatchesRow.opFX18 _
  case opFX1E => exact Laws.MatchesRow.opFX1E _
  case opFX29 => exact Laws.MatchesRow.opFX29 _
  case opFX33 => exact Laws.MatchesRow.opFX33 _
  case opFX55 => exact Laws.MatchesRow.opFX55 _
  case opFX65 => exact Laws.MatchesRow.opFX65 _

theorem OpcodeRow.matchesOp_iff {r : OpcodeRow} {op : Word} : r.matchesOp op = true ↔ op &&& r.mask = r.pattern :=
  beq_iff_eq

/-- The bits that a row's mask keeps whole are the pattern's. -/
theorem OpcodeRow.extractLsb'_of_matches {r : OpcodeRow} {op : Word} (h : r.matchesOp op = true) (start len : Nat)
    (hmask : r.mask.extractLsb' start len = BitVec.allOnes len) :
    op.extractLsb' start len = r.pattern.extractLsb' start len := by
  rw [← OpcodeRow.matchesOp_iff.mp h, BitVec.extractLsb'_and, hmask, BitVec.and_allOnes]

theorem OpcodeRow.eq_pattern_of_matches {r : OpcodeRow} {op : Word} (h : r.matchesOp op = true)
    (hmask : r.mask = BitVec.allOnes 16) : op = r.pattern := by
  rw [← OpcodeRow.matchesOp_iff.mp h, hmask, BitVec.and_allOnes]

theorem instruction_of_matches {r : OpcodeRow} {op : Word} (h : r.matchesOp op = true)
    (hmask : r.mask.extractLsb' 12 4 = BitVec.allOnes 4) :
    (decodeFields op).instruction = (decodeFields r.pattern).instruction :=
  OpcodeRow.extractLsb'_of_matches h 12 4 hmask

theorem decodes_of_rowByNibble {r : OpcodeRow} {op : Word} (hr : r ∈ opcodeRowsByNibble) (h : r.matchesOp op = true) :
    ∃ i, decode op = .ok i := by
  simp only [opcodeRowsByNibble, List.mem_cons, List.not_mem_nil, or_false] at hr
  obtain rfl | rfl | hr := hr
  · exact ⟨_, (congrArg decode (OpcodeRow.eq_pattern_of_matches h rfl)).trans decode_00E0⟩
  · exact ⟨_, (congrArg decode (OpcodeRow.eq_pattern_of_matches h rfl)).trans decode_00EE⟩
  · obtain rfl | rfl | rfl | rfl | rfl | rfl | rfl | rfl | rfl | rfl | rfl | rfl := hr <;>
      exact ⟨_, by rw [decode, instruction_of_matches h rfl]; rfl⟩

theorem decodes_of_rowGroup8 {r : OpcodeRow} {op : Word} (hr : r ∈ opcodeRowsGroup8) (h : r.matchesOp op = true) :
    ∃ i, decode op = .ok i := by
  simp only [opcodeRowsGroup8, List.mem_cons, List.not_mem_nil, or_false] at hr
  obtain rfl | rfl | rfl | rfl | rfl | rfl | rfl | rfl | rfl := hr <;>
    exact ⟨_, decode_eq_decodeGroup8_of_n (instruction_of_matches h rfl) (OpcodeRow.extractLsb'_of_matches h 0 4 rfl)⟩

theorem decodes_of_rowGroupsEF {r : OpcodeRow} {op : Word} (hr : r ∈ opcodeRowsGroupsEF) (h : r.matchesOp op = true) :
    ∃ i, decode op = .ok i := by
  simp only [opcodeRowsGroupsEF, List.mem_cons, List.not_mem_nil, or_false] at hr
  obtain rfl | rfl | hr := hr
  iterate 2
    exact ⟨_, decode_eq_decodeGroupE_of_nn (instruction_of_matches h rfl) (OpcodeRow.extractLsb'_of_matches h 0 8 rfl)⟩
  obtain rfl | rfl | rfl | rfl | rfl | rfl | rfl | rfl | rfl := hr <;>
    exact ⟨_, decode_eq_decodeGroupF_of_nn (instruction_of_matches h rfl) (OpcodeRow.extractLsb'_of_matches h 0 8 rfl)⟩

theorem decodes_of_matches {r : OpcodeRow} {op : Word} (hr : r ∈ opcodeTable) (h : r.matchesOp op = true) :
    ∃ i, decode op = .ok i := by
  obtain hr | hr := List.mem_append.mp hr
  · obtain hr | hr := List.mem_append.mp hr
    · exact decodes_of_rowByNibble hr h
    · exact decodes_of_rowGroup8 hr h
  · exact decodes_of_rowGroupsEF hr h

/-- An opcode that decodes is that of its instruction, which matches the row of its name. -/
theorem row_of_decode {op : Word} {i : Instr} (h : decode op = .ok i) :
    ∃ r ∈ opcodeTable, r.matchesOp op = true ∧ r.mnemonic = i.mnemonic := by
  obtain ⟨r, hr, hname, hmatches⟩ := matchesRow i
  exact ⟨r, hr, encodeOfDecode op i h ▸ hmatches, hname⟩

/-- Two rows that match one opcode agree on the bits that both masks keep. -/
theorem OpcodeRow.agree_of_matches {r₁ r₂ : OpcodeRow} {op : Word} (h₁ : r₁.matchesOp op = true)
    (h₂ : r₂.matchesOp op = true) : r₁.pattern &&& r₂.mask = r₂.pattern &&& r₁.mask := by
  rw [← OpcodeRow.matchesOp_iff.mp h₁, ← OpcodeRow.matchesOp_iff.mp h₂, BitVec.and_assoc, BitVec.and_assoc,
    BitVec.and_comm r₁.mask]

theorem opcodeTable_disjoint :
    ∀ r₁ ∈ opcodeTable, ∀ r₂ ∈ opcodeTable, r₁.pattern &&& r₂.mask = r₂.pattern &&& r₁.mask → r₁ = r₂ := by
  decide

/-- Settles O6: a row that matches fixes what the dispatch selects by, an opcode that decodes is that of its
instruction, and two rows that match one opcode agree where both masks keep a bit, as no two rows do. -/
theorem decoderAgreesWithTable : Obligations.DecoderAgreesWithTable := by
  refine fun op => ⟨⟨fun ⟨i, hi⟩ => ?_, fun ⟨r, hr, h⟩ => decodes_of_matches hr h⟩, fun i hi => row_of_decode hi,
    fun r₁ hr₁ r₂ hr₂ h₁ h₂ => opcodeTable_disjoint r₁ hr₁ r₂ hr₂ (OpcodeRow.agree_of_matches h₁ h₂)⟩
  obtain ⟨r, hr, hmatches, -⟩ := row_of_decode hi
  exact ⟨r, hr, hmatches⟩

end Sys2Proof
end

/-! ## Proofs: one instruction and one cycle (spec/40_cycle.md) -/

section

namespace Sys2Proof.Machine

/-! ### An instruction is a check and an effect (R83, R180, R181) -/

/-- The pixels DXYN flips (R152, R153). -/
def State.spriteOf (s : State) (x y : Reg) (n : BitVec 4) : List (Nat × Nat) :=
  spritePixels (s.V x).toNat (s.V y).toNat (s.memory.readBytes s.addressRegister.toNat n.toNat)

/-- The fault an instruction raises before any effect: a return on an empty stack, a call on a full one, an access that
leaves memory (R184 to R186). -/
def State.execFault (s : State) : Instr → Option Fault
  | .op00EE => if s.stack = [] then some (.stackUnderflow s.programCounter) else none
  | .op2NNN _ => if s.stackFull then some (.stackOverflow s.programCounter) else none
  | i => s.spanFault (accessBytes i)

/-- What an instruction that raises no fault does to the state, its report aside; `exec_eq_elim` ties it to `exec`. -/
def State.effect (s : State) : Instr → State
  | .op00E0 => s.callClear.advance
  | .op00EE => (s.setStack s.stack.tail).setPc (s.stack.headD 0 + 2)
  | .op1NNN nnn => s.setPc (addressOf nnn)
  | .op2NNN nnn => (s.push s.programCounter).setPc (addressOf nnn)
  | .op3XNN x nn => s.skipIf (decide (s.V x = nn))
  | .op4XNN x nn => s.skipIf (decide (s.V x ≠ nn))
  | .op5XY0 x y _ => s.skipIf (decide (s.V x = s.V y))
  | .op6XNN x nn => (s.setV x nn).advance
  | .op7XNN x nn => (s.setV x (s.V x + nn)).advance
  | .op8XY0 x y => (s.setV x (s.V y)).advance
  | .op8XY1 x y => (s.setV x (s.V x ||| s.V y)).advance
  | .op8XY2 x y => (s.setV x (s.V x &&& s.V y)).advance
  | .op8XY3 x y => (s.setV x (s.V x ^^^ s.V y)).advance
  | .op8XY4 x y => ((s.setV x (s.V x + s.V y)).setFlag (carryFlag (s.V x) (s.V y))).advance
  | .op8XY5 x y => ((s.setV x (s.V x - s.V y)).setFlag (notBorrowFlag (s.V x) (s.V y))).advance
  | .op8XY6 x _ =>
    ((s.setFlag (shiftRightFlag (s.V x))).setV x ((s.setFlag (shiftRightFlag (s.V x))).V x >>> 1)).advance
  | .op8XY7 x y => ((s.setV x (s.V y - s.V x)).setFlag (notBorrowFlag (s.V y) (s.V x))).advance
  | .op8XYE x _ =>
    ((s.setFlag (shiftLeftFlag (s.V x))).setV x ((s.setFlag (shiftLeftFlag (s.V x))).V x <<< 1)).advance
  | .op9XY0 x y _ => s.skipIf (decide (s.V x ≠ s.V y))
  | .opANNN nnn => (s.setI (addressOf nnn)).advance
  | .opBNNN nnn => s.setPc (addressOf nnn + offsetOf (s.V 0))
  | .opCXNN x nn => (s.callRandom.setV x (s.randomAnswer &&& nn)).advance
  | .opDXYN x y n =>
    ((s.flipAll (s.spriteOf x y n)).2.setFlag (collisionFlag (s.flipAll (s.spriteOf x y n)).1)).advance
  | .opEX9E x => (s.askKey (s.keyIndex x)).2.skipIf (s.askKey (s.keyIndex x)).1
  | .opEXA1 x => (s.askKey (s.keyIndex x)).2.skipIf (!(s.askKey (s.keyIndex x)).1)
  | .opFX07 x => (s.setV x (s.fromTicks s.delayTimer)).advance
  | .opFX0A x => s.afterKey x s.anyKeyAnswer
  | .opFX15 x => (s.setDelay (s.heldTicks (s.toTicks (s.V x)))).advance
  | .opFX18 x => (s.setSound (s.heldTicks (s.toTicks (s.V x)))).advance
  | .opFX1E x => (s.setI (s.addressRegister + offsetOf (s.V x))).advance
  | .opFX29 x => (s.setI (fontAddress (s.V x))).advance
  | .opFX33 x => (s.setMemory (s.memory.writeBytes s.addressRegister.toNat (decimalDigits (s.V x)))).advance
  | .opFX55 x => (s.setMemory (s.memory.writeBytes s.addressRegister.toNat (s.block x))).advance
  | .opFX65 x => (s.loadV 0 (s.memory.readBytes s.addressRegister.toNat (x.toNat + 1))).advance

/-- What an instruction that raises no fault reports: FX0A waits when no key is pressed, and every other completes
(R85). -/
def State.reportAfter (s : State) : Instr → Report
  | .opFX0A _ => if s.anyKeyAnswer = none then .waiting else .executed
  | _ => .executed

/-- The state an instruction that raises no fault leaves. -/
def State.afterExec (s : State) (i : Instr) : State := (s.effect i).setReport (s.reportAfter i)

theorem withSpan_eq_elim (s e : State) (n : Nat) : withSpan s n e = (s.spanFault n).elim (complete e) raise := by
  unfold withSpan
  cases s.spanFault n <;> rfl

/-- Every instruction is its check and then its effect. The cases are those of how an instruction ends: a pop or a push
may fault, an access of memory is checked, FX0A may wait, and the others complete. -/
theorem exec_eq_elim (i : Instr) (s : State) :
    exec i s = (s.execFault i).elim (.next (s.afterExec i)) .fault := by
  cases i
  case op00EE =>
    cases hstack : s.stack with
    | nil => simp [exec, exec00EE, State.execFault, hstack, raise]
    | cons a rest =>
      simp [exec, exec00EE, hstack, State.execFault, State.afterExec, State.effect, State.reportAfter, complete]
  case op2NNN nnn =>
    by_cases hfull : s.stackFull = true
    · simp [exec, exec2NNN, State.execFault, hfull, raise]
    · simp [exec, exec2NNN, State.execFault, State.afterExec, State.effect, State.reportAfter, hfull, complete]
  case opFX0A x =>
    simp only [exec, execFX0A, State.afterExec, State.effect, State.reportAfter]
    cases s.anyKeyAnswer <;> rfl
  case opDXYN | opFX33 | opFX55 | opFX65 => exact withSpan_eq_elim ..
  all_goals rfl

theorem exec_eq_next_iff {i : Instr} {s u : State} :
    exec i s = .next u ↔ s.execFault i = none ∧ u = s.afterExec i := by
  rw [exec_eq_elim]
  cases s.execFault i <;> simp [eq_comm]

theorem exec_eq_fault_iff {i : Instr} {s : State} {f : Fault} : exec i s = .fault f ↔ s.execFault i = some f := by
  rw [exec_eq_elim]
  cases s.execFault i <;> simp

theorem exec_ne_refused {i : Instr} {s : State} {r : Refusal} : exec i s ≠ .refused r := by
  rw [exec_eq_elim]
  cases s.execFault i <;> simp

/-! ### The check of an instruction (R184 to R186) -/

/-- The instructions that access memory are none of those that check the stack. -/
theorem execFault_eq_spanFault {s : State} {i : Instr} (h : 0 < accessBytes i) :
    s.execFault i = s.spanFault (accessBytes i) := by
  cases i
  case op00EE | op2NNN => exact absurd h (Nat.lt_irrefl 0)
  all_goals rfl

theorem execFault_eq_some_iff {s : State} {i : Instr} {f : Fault} :
    s.execFault i = some f ↔
      (∃ nnn, i = .op2NNN nnn ∧ s.stackLimit = some s.stack.length ∧ f = .stackOverflow s.programCounter) ∨
      (i = .op00EE ∧ s.stack = [] ∧ f = .stackUnderflow s.programCounter) ∨
      (0 < accessBytes i ∧ 4095 < s.addressRegister.toNat + (accessBytes i - 1) ∧
        f = .memoryOutOfRange (max s.addressRegister.toNat 4096)) := by
  have hspan : s.spanFault (accessBytes i) = some f ↔
      0 < accessBytes i ∧ 4095 < s.addressRegister.toNat + (accessBytes i - 1) ∧
        f = .memoryOutOfRange (max s.addressRegister.toNat 4096) := by
    rw [State.spanFault_some]
    constructor
    · rintro ⟨hpos, hlt, rfl⟩
      exact ⟨hpos, by omega, rfl⟩
    · rintro ⟨hpos, hlt, rfl⟩
      exact ⟨hpos, by omega, rfl⟩
  cases i
  case op00EE => simp [State.execFault, accessBytes, eq_comm]
  case op2NNN nnn =>
    by_cases hfull : s.stackFull = true
    · simp [State.execFault, hfull, State.stackFull_iff.mp hfull, accessBytes, eq_comm]
    · simp [State.execFault, hfull, mt State.stackFull_iff.mpr hfull, accessBytes]
  all_goals simpa [State.execFault] using hspan

/-! ### One cycle (R80) -/

/-- The outcomes of a cycle that runs `i` are those of `i`; `step_eq_next_of_runs` says it of a next state. -/
theorem step_eq_fault_of_runs {s : State} {i : Instr} {f : Fault} (hruns : s.Runs i) :
    step s = .fault f ↔ exec i s = .fault f := by
  obtain ⟨hpc, hdecode⟩ := hruns
  have hfetch : fetch s = .ok s.opcode := fetch_eq_ok.mpr ⟨hpc, rfl⟩
  simp only [step, hfetch, hdecode]
  split
  · next u he => simp [he]
  · next g he => simp [he]
  · next r he => exact absurd he exec_ne_refused

theorem step_of_fetch_out_of_range {s : State} (hpc : 4094 < s.programCounter.toNat) :
    step s = .fault (.fetchOutOfRange s.programCounter) := by
  have hfetch : fetch s = .error (.fetchOutOfRange s.programCounter) := fetch_eq_error.mpr ⟨hpc, rfl⟩
  simp only [step, hfetch]

/-- Everything a cycle that answers a next state has done: it ran an instruction that raised no fault, and ended. -/
theorem step_eq_next_iff {s t : State} :
    step s = .next t ↔ ∃ i, s.Runs i ∧ s.execFault i = none ∧ t = (s.afterExec i).endCycle := by
  constructor
  · intro h
    obtain ⟨hpc, i, u, hdecode, hexec, rfl⟩ := step_next_cases h
    obtain ⟨hcheck, rfl⟩ := exec_eq_next_iff.mp hexec
    exact ⟨i, ⟨hpc, hdecode⟩, hcheck, rfl⟩
  · rintro ⟨i, hruns, hcheck, rfl⟩
    exact (step_eq_next_of_runs hruns).mpr ⟨_, exec_eq_next_iff.mpr ⟨hcheck, rfl⟩, rfl⟩

/-- A next state of a cycle known to run `i`. -/
theorem eq_of_step_of_runs {s t : State} {i : Instr} (hruns : s.Runs i) (h : step s = .next t) :
    s.execFault i = none ∧ t = (s.afterExec i).endCycle := by
  obtain ⟨u, hexec, rfl⟩ := (step_eq_next_of_runs hruns).mp h
  obtain ⟨hcheck, rfl⟩ := exec_eq_next_iff.mp hexec
  exact ⟨hcheck, rfl⟩

/-- Everything a cycle that faults has done: it could not fetch, or not decode, or its instruction raised the fault. -/
theorem step_eq_fault_iff {s : State} {f : Fault} :
    step s = .fault f ↔
      (4094 < s.programCounter.toNat ∧ f = .fetchOutOfRange s.programCounter) ∨
      (s.programCounter.toNat ≤ 4094 ∧ Unlisted s.opcode ∧ f = .unknownOpcode s.opcode) ∨
      ∃ i, s.Runs i ∧ s.execFault i = some f := by
  constructor
  · intro h
    by_cases hpc : 4094 < s.programCounter.toNat
    · rw [step_of_fetch_out_of_range hpc] at h
      cases h
      exact .inl ⟨hpc, rfl⟩
    · have hpc' := Nat.le_of_not_lt hpc
      cases hd : decode s.opcode with
      | error e =>
        obtain ⟨rfl, hunlisted⟩ := decode_error_cases hd
        rw [step_of_decode_error hpc' hd] at h
        cases h
        exact .inr (.inl ⟨hpc', hunlisted, rfl⟩)
      | ok i =>
        have hruns : s.Runs i := ⟨hpc', hd⟩
        exact .inr (.inr ⟨i, hruns, exec_eq_fault_iff.mp ((step_eq_fault_of_runs hruns).mp h)⟩)
  · rintro (⟨hpc, rfl⟩ | ⟨hpc, hunlisted, rfl⟩ | ⟨i, hruns, hcheck⟩)
    · exact step_of_fetch_out_of_range hpc
    · exact step_of_decode_error hpc (decode_of_unlisted hunlisted)
    · exact (step_eq_fault_of_runs hruns).mpr (exec_eq_fault_iff.mpr hcheck)

/-! ### The cycle and its faults -/

/-- Settles O9: the two bytes make the fetched opcode, and each outcome of the instruction is the cycle's. -/
theorem cycleRunsDecodedInstruction : Obligations.CycleRunsDecodedInstruction := by
  refine fun s => ⟨step_of_fetch_out_of_range, fun hpc op hop => ?_⟩
  obtain rfl : op = s.opcode := BitVec.eq_of_toNat_eq (hop.trans (bigEndian_toNat _ _).symm)
  refine ⟨fun e he => ?_, fun i hi => ⟨fun t hexec hreport => ?_, fun t hexec hreport => ?_, fun f hexec => ?_⟩⟩
  · obtain ⟨rfl, -⟩ := decode_error_cases he
    exact step_of_decode_error hpc he
  · exact step_eq_tick_of_exec ⟨hpc, hi⟩ hexec hreport
  · exact (step_eq_next_of_runs ⟨hpc, hi⟩).mpr ⟨t, hexec, (endCycle_of_waiting hreport).symm⟩
  · exact (step_eq_fault_of_runs ⟨hpc, hi⟩).mpr hexec

/-- Settles O11: of the faults of a cycle that fetches in range, only the failed decode is UnknownOpcode. -/
theorem unknownOpcodeRaised : Obligations.UnknownOpcodeRaised := by
  refine fun s hpc => ⟨⟨fun h => ?_, fun hunlisted => ?_⟩, rfl, rfl⟩
  · obtain ⟨-, hf⟩ | ⟨-, hunlisted, -⟩ | ⟨i, -, hcheck⟩ := step_eq_fault_iff.mp h
    · cases hf
    · exact hunlisted
    · obtain ⟨_, _, _, hf⟩ | ⟨_, _, hf⟩ | ⟨_, _, hf⟩ := execFault_eq_some_iff.mp hcheck <;> cases hf
  · exact step_eq_fault_iff.mpr (.inr (.inl ⟨hpc, hunlisted, rfl⟩))

/-- Settles O13: the three stages of a cycle that can fault, and the three checks of the last. -/
theorem cycleFaultsExactly : Obligations.CycleFaultsExactly := by
  refine fun s f => ⟨fun h => ?_, fun h => step_eq_fault_iff.mpr ?_⟩
  · obtain ⟨hpc, rfl⟩ | ⟨hpc, hunlisted, rfl⟩ | ⟨i, hruns, hcheck⟩ := step_eq_fault_iff.mp h
    · exact .inl ⟨hpc, rfl, rfl, rfl⟩
    · exact .inr (.inl ⟨hpc, fun i hi => by simp [decode_of_unlisted hunlisted] at hi, rfl, rfl, rfl⟩)
    · obtain ⟨nnn, rfl, hfull, rfl⟩ | ⟨rfl, hempty, rfl⟩ | ⟨hpos, hrange, rfl⟩ := execFault_eq_some_iff.mp hcheck
      · exact .inr (.inr (.inl ⟨nnn, hruns, hfull, rfl, rfl, rfl⟩))
      · exact .inr (.inr (.inr (.inl ⟨hruns, hempty, rfl, rfl, rfl⟩)))
      · exact .inr (.inr (.inr (.inr ⟨i, hruns, hpos, hrange, rfl, rfl, rfl⟩)))
  · obtain ⟨hpc, hf, -⟩ | ⟨hpc, hd, hf, -⟩ | ⟨nnn, hruns, hfull, hf, -⟩ | ⟨hruns, hempty, hf, -⟩ |
      ⟨i, hruns, hpos, hrange, hf, -⟩ := h
    · exact .inl ⟨hpc, hf⟩
    · exact .inr (.inl ⟨hpc, unlisted_of_not_ok hd, hf⟩)
    · exact .inr (.inr ⟨_, hruns, execFault_eq_some_iff.mpr (.inl ⟨nnn, rfl, hfull, hf⟩)⟩)
    · exact .inr (.inr ⟨_, hruns, execFault_eq_some_iff.mpr (.inr (.inl ⟨rfl, hempty, hf⟩))⟩)
    · exact .inr (.inr ⟨i, hruns, execFault_eq_some_iff.mpr (.inr (.inr ⟨hpos, hrange, hf⟩))⟩)

/-! ### The state after a cycle: the end of the cycle changes the timers alone -/

theorem endCycle_afterExec_memory (s : State) (i : Instr) : (s.afterExec i).endCycle.memory = (s.effect i).memory :=
  State.endCycle_memory _

theorem endCycle_afterExec_V (s : State) (i : Instr) (r : Reg) : (s.afterExec i).endCycle.V r = (s.effect i).V r :=
  State.endCycle_V _ r

theorem endCycle_afterExec_addressRegister (s : State) (i : Instr) :
    (s.afterExec i).endCycle.addressRegister = (s.effect i).addressRegister :=
  State.endCycle_addressRegister _

theorem endCycle_afterExec_programCounter (s : State) (i : Instr) :
    (s.afterExec i).endCycle.programCounter = (s.effect i).programCounter :=
  State.endCycle_programCounter _

theorem endCycle_afterExec_stack (s : State) (i : Instr) : (s.afterExec i).endCycle.stack = (s.effect i).stack :=
  State.endCycle_stack _

theorem endCycle_afterExec_report (s : State) (i : Instr) : (s.afterExec i).endCycle.report = s.reportAfter i :=
  State.endCycle_report _

/-! ### The outcomes of a cycle (R85) -/

/-- No instruction reports that no cycle has run. -/
theorem reportAfter_eq_or (s : State) (i : Instr) : s.reportAfter i = .executed ∨ s.reportAfter i = .waiting := by
  unfold State.reportAfter
  split
  · split
    · exact .inr rfl
    · exact .inl rfl
  · exact .inl rfl

theorem reportAfter_eq_waiting {s : State} {i : Instr} (h : s.reportAfter i = .waiting) :
    ∃ x, i = .opFX0A x ∧ s.anyKeyAnswer = none := by
  cases i
  case opFX0A x => exact ⟨x, rfl, by by_contra hkey; simp [State.reportAfter, hkey] at h⟩
  all_goals cases h

/-- No cycle is refused: what does not fetch, decode or pass its check faults. -/
theorem step_ne_refused {s : State} {r : Refusal} : step s ≠ .refused r := by
  intro h
  unfold step at h
  split at h
  · cases h
  · split at h
    · cases h
    · split at h
      · cases h
      · cases h
      · next hexec => exact exec_ne_refused hexec

/-- Settles O14: a cycle is not refused, and a next state has its instruction's report. -/
theorem cycleOutcomesAreTotal : Obligations.CycleOutcomesAreTotal := by
  intro s
  cases hstep : step s with
  | fault f => exact .inl ⟨f, rfl⟩
  | refused r => exact absurd hstep step_ne_refused
  | next t =>
    obtain ⟨i, -, -, rfl⟩ := step_eq_next_iff.mp hstep
    exact .inr ⟨_, rfl, endCycle_afterExec_report s i ▸ reportAfter_eq_or s i⟩

/-- A wait is one recorded call of the keyboard: nothing of the CPU state changes (R163). -/
theorem afterExec_of_waiting {s : State} {i : Instr} (h : s.reportAfter i = .waiting) :
    s.afterExec i = s.callAnyKey.setReport .waiting := by
  obtain ⟨x, rfl, hkey⟩ := reportAfter_eq_waiting h
  rw [State.afterExec, h, State.effect, hkey]
  rfl

/-- Settles O15: only FX0A reports `Waiting`, and a wait does not tick. -/
theorem waitingCycleChangesNothing : Obligations.WaitingCycleChangesNothing := by
  intro s t hstep hwait
  obtain ⟨i, hruns, -, rfl⟩ := step_eq_next_iff.mp hstep
  rw [endCycle_afterExec_report] at hwait
  obtain ⟨x, rfl, -⟩ := reportAfter_eq_waiting hwait
  rw [afterExec_of_waiting hwait, endCycle_of_waiting rfl]
  exact ⟨⟨rfl, rfl, rfl, rfl, rfl, ⟨rfl, rfl⟩, rfl⟩, ⟨rfl, rfl, rfl, rfl⟩, x, hruns⟩

end Sys2Proof.Machine
end

/-! ## Proofs: what every cycle keeps (spec/10_state.md, spec/20_memory.md) -/

section

namespace Sys2Proof.Machine

/-! ### The parameters and I (R10, R27) -/

theorem effect_sameConfig (s : State) (i : Instr) : SameConfig s (s.effect i) := by
  cases i <;> simp [SameConfig, State.effect]

/-- Settles O22: no instruction's effect writes a parameter, and neither does the end of the cycle. -/
theorem parametersNeverChange : Obligations.ParametersNeverChange := by
  intro s t hstep
  obtain ⟨i, -, -, rfl⟩ := step_eq_next_iff.mp hstep
  simpa [SameConfig, State.afterExec] using effect_sameConfig s i

theorem effect_addressRegister {s : State} {i : Instr} (hANNN : ∀ nnn, i ≠ .opANNN nnn) (hFX1E : ∀ x, i ≠ .opFX1E x)
    (hFX29 : ∀ x, i ≠ .opFX29 x) : (s.effect i).addressRegister = s.addressRegister := by
  cases i
  case opANNN nnn => exact absurd rfl (hANNN nnn)
  case opFX1E x => exact absurd rfl (hFX1E x)
  case opFX29 x => exact absurd rfl (hFX29 x)
  all_goals simp [State.effect]

/-- Settles O23: no other instruction's effect writes I, and neither does the end of the cycle. -/
theorem indexWrittenOnlyByItsInstructions : Obligations.IndexWrittenOnlyByItsInstructions := by
  intro s t i hruns hstep hANNN hFX1E hFX29
  obtain ⟨-, rfl⟩ := eq_of_step_of_runs hruns hstep
  rw [endCycle_afterExec_addressRegister, effect_addressRegister hANNN hFX1E hFX29]

/-! ### The stack (R32) -/

theorem effect_stack {s : State} {i : Instr} (h2NNN : ∀ nnn, i ≠ .op2NNN nnn) (h00EE : i ≠ .op00EE) :
    (s.effect i).stack = s.stack := by
  cases i
  case op2NNN nnn => exact absurd rfl (h2NNN nnn)
  case op00EE => exact absurd rfl h00EE
  all_goals simp [State.effect]

/-- A return that raises no fault has an entry to pop. -/
theorem stack_eq_cons_of_return {s : State} (h : s.execFault .op00EE = none) :
    s.stack = s.stack.headD 0 :: (s.effect .op00EE).stack := by
  cases hstack : s.stack with
  | nil => simp [State.execFault, hstack] at h
  | cons a rest => simp [State.effect, hstack]

/-- Settles O24: a call pushes, a return that raises no fault had an entry, and no other effect writes the stack. -/
theorem stackChangesOnlyByCallAndReturn : Obligations.StackChangesOnlyByCallAndReturn := by
  intro s t i hruns hstep
  obtain ⟨hcheck, rfl⟩ := eq_of_step_of_runs hruns hstep
  rw [endCycle_afterExec_stack]
  by_cases h2NNN : ∃ nnn, i = .op2NNN nnn
  · obtain ⟨nnn, rfl⟩ := h2NNN
    exact .inl ⟨nnn, rfl, rfl⟩
  · by_cases h00EE : i = .op00EE
    · subst h00EE
      exact .inr (.inl ⟨rfl, _, stack_eq_cons_of_return hcheck⟩)
    · exact .inr (.inr ⟨not_exists.mp h2NNN, h00EE, effect_stack (not_exists.mp h2NNN) h00EE⟩)

/-! ### Memory (R40, R43) -/

/-- An access that raises no fault stays inside memory (R45). -/
theorem access_le_memorySize {s : State} {i : Instr} (hpos : 0 < accessBytes i) (h : s.execFault i = none) :
    s.addressRegister.toNat + accessBytes i ≤ memorySize := by
  rw [execFault_eq_spanFault hpos, State.spanFault_none] at h
  obtain hzero | hle := h
  · omega
  · exact hle

theorem effect_memory {s : State} {i : Instr} (hFX33 : ∀ x, i ≠ .opFX33 x) (hFX55 : ∀ x, i ≠ .opFX55 x) :
    (s.effect i).memory = s.memory := by
  cases i
  case opFX33 x => exact absurd rfl (hFX33 x)
  case opFX55 x => exact absurd rfl (hFX55 x)
  all_goals simp [State.effect]

/-- FX33 and FX55 store the bytes they access, at I and up, inside memory. -/
theorem effect_memory_of_store {s : State} {i : Instr} (hi : (∃ x, i = .opFX33 x) ∨ ∃ x, i = .opFX55 x)
    (hcheck : s.execFault i = none) :
    ∃ bytes : List Byte, bytes.length = accessBytes i ∧ s.addressRegister.toNat + bytes.length ≤ memorySize ∧
      (s.effect i).memory = s.memory.writeBytes s.addressRegister.toNat bytes := by
  obtain ⟨x, rfl⟩ | ⟨x, rfl⟩ := hi
  · exact ⟨decimalDigits (s.V x), rfl, access_le_memorySize (i := .opFX33 x) (Nat.succ_pos 2) hcheck, rfl⟩
  · have hrange := access_le_memorySize (i := .opFX55 x) (Nat.succ_pos x.toNat) hcheck
    exact ⟨s.block x, s.block_length x, by rwa [s.block_length x], rfl⟩

/-- Settles O25: outside the bytes a store writes every byte reads as before, and no other effect writes memory. -/
theorem memoryChangesOnlyWhereStored : Obligations.MemoryChangesOnlyWhereStored := by
  intro s t i hwf hruns hstep a
  obtain ⟨hcheck, rfl⟩ := eq_of_step_of_runs hruns hstep
  rw [endCycle_afterExec_memory]
  refine ⟨fun hi ha => ?_, fun ⟨hFX33, hFX55⟩ => by rw [effect_memory hFX33 hFX55]⟩
  obtain ⟨bytes, hlength, hrange, heq⟩ := effect_memory_of_store hi hcheck
  rw [heq, Memory.writeBytes_read_outside hwf hrange (by rwa [hlength])]

theorem effect_memory_wf {s : State} {i : Instr} (hwf : s.memory.wf = true) (hcheck : s.execFault i = none) :
    (s.effect i).memory.wf = true := by
  by_cases hi : (∃ x, i = .opFX33 x) ∨ ∃ x, i = .opFX55 x
  · obtain ⟨bytes, -, hrange, heq⟩ := effect_memory_of_store hi hcheck
    exact heq ▸ Memory.writeBytes_wf hrange hwf
  · obtain ⟨hFX33, hFX55⟩ := not_or.mp hi
    rwa [effect_memory (not_exists.mp hFX33) (not_exists.mp hFX55)]

/-! ### The general registers (R24) -/

/-- The registers an instruction can write: its destination, VF for a flag result, V0 to VX for a load. -/
def Writes : Instr → Reg → Prop
  | .op6XNN x _, r => r = x
  | .op7XNN x _, r => r = x
  | .op8XY0 x _, r => r = x
  | .op8XY1 x _, r => r = x
  | .op8XY2 x _, r => r = x
  | .op8XY3 x _, r => r = x
  | .op8XY4 x _, r => r = x ∨ r = 0xF
  | .op8XY5 x _, r => r = x ∨ r = 0xF
  | .op8XY6 x _, r => r = x ∨ r = 0xF
  | .op8XY7 x _, r => r = x ∨ r = 0xF
  | .op8XYE x _, r => r = x ∨ r = 0xF
  | .opCXNN x _, r => r = x
  | .opDXYN _ _ _, r => r = 0xF
  | .opFX07 x, r => r = x
  | .opFX0A x, r => r = x
  | .opFX65 x, r => r.toNat ≤ x.toNat
  | _, _ => False

theorem afterKey_V_of_ne {s : State} {x r : Reg} (hr : r ≠ x) (key : Option Key) : (s.afterKey x key).V r = s.V r := by
  cases key
  case none => rfl
  case some k => exact State.setV_V_of_ne _ hr _

theorem loadV_V_of_lt {s : State} {x r : Reg} (hr : x.toNat < r.toNat) (bytes : List Byte)
    (hlength : bytes.length = x.toNat + 1) : (s.loadV 0 bytes).V r = s.V r := by
  have hx := x.isLt
  rw [State.loadV_V _ _ _ _ (by omega), dif_neg (by omega)]

/-- An instruction's effect leaves every register it does not write. -/
theorem effect_V {s : State} {i : Instr} {r : Reg} (h : ¬ Writes i r) : (s.effect i).V r = s.V r := by
  cases i
  case opFX0A x => exact afterKey_V_of_ne h _
  case opFX65 x => exact loadV_V_of_lt (Nat.lt_of_not_le h) _ (Memory.readBytes_length ..)
  case opDXYN x y n => exact (setFlag_V_of_ne _ h _).trans (State.flipAll_V ..)
  case op6XNN | op7XNN | op8XY0 | op8XY1 | op8XY2 | op8XY3 | opCXNN | opFX07 => exact State.setV_V_of_ne _ h _
  case op8XY4 | op8XY5 | op8XY7 =>
    obtain ⟨hx, hF⟩ := not_or.mp h
    exact (setFlag_V_of_ne _ hF _).trans (State.setV_V_of_ne s hx _)
  case op8XY6 | op8XYE =>
    obtain ⟨hx, hF⟩ := not_or.mp h
    exact (State.setV_V_of_ne _ hx _).trans (setFlag_V_of_ne s hF _)
  all_goals simp [State.effect]

/-- A load up to VX writes VF only when X is F. -/
theorem eq_flagReg_of_le {x : Reg} (h : (0xF : Reg).toNat ≤ x.toNat) : x = 0xF := by
  have hx := x.isLt
  exact BitVec.eq_of_toNat_eq (Nat.le_antisymm (Nat.le_of_lt_succ hx) h)

/-- Settles O26: a cycle that changes VF runs an instruction that can write it, and those are the listed ones. -/
theorem flagRegisterWrittenOnlyAsListed : Obligations.FlagRegisterWrittenOnlyAsListed := by
  intro s t i hruns hstep hne
  obtain ⟨-, rfl⟩ := eq_of_step_of_runs hruns hstep
  rw [endCycle_afterExec_V] at hne
  have hwrites : Writes i 0xF := by
    by_contra h
    exact hne (effect_V h)
  cases i
  case op8XY4 x y | op8XY5 x y | op8XY6 x y | op8XY7 x y | op8XYE x y => exact .inl ⟨x, y, by simp⟩
  case opDXYN x y n => exact .inr (.inl ⟨x, y, n, rfl⟩)
  case op6XNN x nn | op7XNN x nn | opCXNN x nn =>
    obtain rfl : 0xF = x := hwrites
    exact .inr (.inr (.inl ⟨nn, by simp⟩))
  case op8XY0 x y | op8XY1 x y | op8XY2 x y | op8XY3 x y =>
    obtain rfl : 0xF = x := hwrites
    exact .inr (.inr (.inr (.inl ⟨y, by simp⟩)))
  case opFX07 x | opFX0A x =>
    obtain rfl : 0xF = x := hwrites
    simp
  case opFX65 x =>
    obtain rfl := eq_flagReg_of_le hwrites
    simp
  all_goals exact hwrites.elim

/-! ### The timers (R34, R36, R170) -/

theorem endCycle_delayTimer_le (s : State) : s.endCycle.delayTimer ≤ s.delayTimer := by
  rw [State.endCycle_eq]
  dsimp only
  split <;> omega

theorem endCycle_soundTimer_le (s : State) : s.endCycle.soundTimer ≤ s.soundTimer := by
  rw [State.endCycle_eq]
  dsimp only
  split <;> omega

/-- The one write of DT is FX15's, of a number of ticks; ST has the like in FX18. -/
theorem effect_delayTimer_cases (s : State) (i : Instr) :
    (s.effect i).delayTimer = s.delayTimer ∨ ∃ v, (s.effect i).delayTimer = s.heldTicks (s.toTicks v) := by
  cases i
  case opFX15 x => exact .inr ⟨s.V x, rfl⟩
  all_goals exact .inl (by simp [State.effect])

theorem effect_soundTimer_cases (s : State) (i : Instr) :
    (s.effect i).soundTimer = s.soundTimer ∨ ∃ v, (s.effect i).soundTimer = s.heldTicks (s.toTicks v) := by
  cases i
  case opFX18 x => exact .inr ⟨s.V x, rfl⟩
  all_goals exact .inl (by simp [State.effect])

/-- A legal width holds what a timer's write leaves, which is at most 255·S. -/
theorem heldTicks_le {s : State} (hwidth : timerBitsWellFormed s.timerScaler s.timerBits = true) (v : Byte) :
    s.heldTicks (s.toTicks v) ≤ 255 * s.timerScaler :=
  (State.heldTicks_toTicks hwidth v).trans_le (s.toTicks_le v)

/-- A bound that holds of both timers and of everything FX15 and FX18 write holds after the cycle. -/
theorem timers_le_of_step {s : State} {i : Instr} {bound : Nat} (hdelay : s.delayTimer ≤ bound)
    (hsound : s.soundTimer ≤ bound) (hheld : ∀ v, s.heldTicks (s.toTicks v) ≤ bound) :
    (s.afterExec i).endCycle.delayTimer ≤ bound ∧ (s.afterExec i).endCycle.soundTimer ≤ bound := by
  constructor
  · refine (endCycle_delayTimer_le _).trans ?_
    obtain h | ⟨v, h⟩ := effect_delayTimer_cases s i
    · exact h.trans_le hdelay
    · exact h.trans_le (hheld v)
  · refine (endCycle_soundTimer_le _).trans ?_
    obtain h | ⟨v, h⟩ := effect_soundTimer_cases s i
    · exact h.trans_le hsound
    · exact h.trans_le (hheld v)

/-! ### The invariant (R33, R34, R36, R40) -/

/-- A call that raises no fault pushes below the limit, and no other effect makes the stack longer. -/
theorem effect_stack_le {s : State} {i : Instr} {l : Nat} (hcheck : s.execFault i = none)
    (hlimit : s.stackLimit = some l) (hlength : s.stack.length ≤ l) : (s.effect i).stack.length ≤ l := by
  cases i
  case op2NNN nnn =>
    have hne : s.stack.length ≠ l := by
      rintro rfl
      simp [State.execFault, State.stackFull_iff.mpr hlimit] at hcheck
    exact Nat.lt_of_le_of_ne hlength hne
  case op00EE => exact (List.length_tail ▸ Nat.sub_le ..).trans hlength
  all_goals simpa [State.effect] using hlength

/-- Settles O17: the parameters stay, and each part of the invariant is kept by every effect whose check has passed. -/
theorem cycleKeepsInvariant : Obligations.CycleKeepsInvariant := by
  intro s t hinv hstep
  obtain ⟨hscaler, hbits, hlimit, -⟩ := parametersNeverChange s t hstep
  obtain ⟨i, -, hcheck, rfl⟩ := step_eq_next_iff.mp hstep
  obtain ⟨hdelay, hsound⟩ := timers_le_of_step (i := i) hinv.delay hinv.sound (heldTicks_le hinv.width)
  refine ⟨?_, hscaler ▸ hinv.scaler, ?_, hscaler ▸ hdelay, hscaler ▸ hsound, fun l hl => ?_⟩
  · rw [endCycle_afterExec_memory]
    exact effect_memory_wf hinv.memory hcheck
  · rw [hscaler, hbits]
    exact hinv.width
  · rw [hlimit] at hl
    obtain ⟨hpos, hlength⟩ := hinv.stack l hl
    rw [endCycle_afterExec_stack]
    exact ⟨hpos, effect_stack_le hcheck hl hlength⟩

/-- A legal configuration (R10) has the legal parameters the invariant asks for, and reset has the rest. -/
theorem resetWith_inv {c : Config} (h : c.wellFormed = true) : (State.resetWith c).Inv := by
  simp only [Config.wellFormed, Bool.and_eq_true, decide_eq_true_eq] at h
  obtain ⟨⟨hscaler, hwidth⟩, hlimit⟩ := h
  refine ⟨rfl, hscaler, hwidth, Nat.zero_le _, Nat.zero_le _, fun l (hl : c.stackLimit = some l) => ?_⟩
  rw [hl] at hlimit
  exact ⟨of_decide_eq_true hlimit, Nat.zero_le _⟩

/-- Settles O18: the reset state is that of a legal configuration. -/
theorem resetMeetsInvariant : Obligations.ResetMeetsInvariant :=
  ⟨resetWith_inv Config.core_wellFormed, fun _ => resetWith_inv⟩

/-! ### The width of the timers (D3) -/

theorem timersFit_of_step {s t : State} (hfit : s.TimersFit) (hstep : step s = .next t) : t.TimersFit := by
  obtain ⟨-, hbits, -⟩ := parametersNeverChange s t hstep
  obtain ⟨i, -, -, rfl⟩ := step_eq_next_iff.mp hstep
  obtain ⟨hdelay, hsound⟩ := timers_le_of_step (i := i) (Nat.le_sub_one_of_lt hfit.delay)
    (Nat.le_sub_one_of_lt hfit.sound) fun v => Nat.le_sub_one_of_lt (s.heldTicks_lt (s.toTicks v))
  have hpos : 0 < 2 ^ s.timerBits := Nat.two_pow_pos _
  refine ⟨?_, ?_⟩ <;> rw [hbits] <;> omega

theorem timersFit_of_inv {s : State} (hinv : s.Inv) : s.TimersFit :=
  have hwidth := (timerBitsWellFormed_iff.mp hinv.width).1
  ⟨hinv.delay.trans_lt hwidth, hinv.sound.trans_lt hwidth⟩

/-- Settles O57: what FX15 and FX18 leave in a timer fits its width, and the width of a core with S = 1 is 8. -/
theorem timersKeepTheirWidth : Obligations.TimersKeepTheirWidth := by
  refine ⟨fun s t => timersFit_of_step, fun s hinv => ⟨timersFit_of_inv hinv, fun hone => ?_⟩⟩
  have hbits : s.timerBits = 8 := (timerBitsWellFormed_iff.mp hinv.width).2 hone
  obtain ⟨hdelay, hsound⟩ := timersFit_of_inv hinv
  rw [hbits] at hdelay hsound
  exact ⟨hbits, hdelay, hsound⟩

/-! ### The program counter (R29, R30) -/

/-- From where an opcode can be fetched, two or four on stays below the largest target. -/
theorem add_toNat_le {pc k : Word} (hpc : pc.toNat ≤ 4094) (hk : k.toNat ≤ 4) : (pc + k).toNat ≤ 0x10FE := by
  rw [BitVec.toNat_add]
  omega

theorem addressOf_toNat_le (nnn : Addr12) : (addressOf nnn).toNat ≤ 0x10FE := by
  have hlt := nnn.isLt
  rw [addressOf_toNat]
  omega

theorem advance_programCounter_le {s : State} (hpc : s.programCounter.toNat ≤ 4094) :
    s.advance.programCounter.toNat ≤ 0x10FE :=
  add_toNat_le (k := 2) hpc (by decide)

theorem skipIf_programCounter_le {s : State} (hpc : s.programCounter.toNat ≤ 4094) (condition : Bool) :
    (s.skipIf condition).programCounter.toNat ≤ 0x10FE := by
  cases condition
  · exact advance_programCounter_le hpc
  · exact add_toNat_le (k := 4) hpc (by decide)

/-- By what each effect does to pc: a target, a skip, a return to two past an entry, a wait, or two on. -/
theorem effect_programCounter_le {s : State} {i : Instr} (hbounded : s.PcBounded)
    (hpc : s.programCounter.toNat ≤ 4094) (hcheck : s.execFault i = none) :
    (s.effect i).programCounter.toNat ≤ 0x10FE := by
  cases i
  case op00EE =>
    have hhead : s.stack.headD 0 ∈ s.stack := stack_eq_cons_of_return hcheck ▸ List.mem_cons_self
    exact add_toNat_le (k := 2) (hbounded.entries _ hhead) (by decide)
  case op1NNN nnn | op2NNN nnn => exact addressOf_toNat_le nnn
  case opBNNN nnn => exact addressOf_add_offsetOf_le nnn _
  case op3XNN | op4XNN | op5XY0 | op9XY0 => exact skipIf_programCounter_le hpc _
  case opEX9E x | opEXA1 x => exact skipIf_programCounter_le ((s.askKey_programCounter _).symm ▸ hpc) _
  case opFX0A x =>
    rw [State.effect]
    cases s.anyKeyAnswer
    · exact hbounded.pc
    · exact advance_programCounter_le hpc
  all_goals exact advance_programCounter_le (by simpa using hpc)

/-- What a call pushes is the address it was fetched from (R103). -/
theorem effect_entries_le {s : State} {i : Instr} (hbounded : s.PcBounded) (hpc : s.programCounter.toNat ≤ 4094) :
    ∀ e ∈ (s.effect i).stack, e.toNat ≤ 4094 := by
  intro e he
  by_cases h2NNN : ∃ nnn, i = .op2NNN nnn
  · obtain ⟨nnn, rfl⟩ := h2NNN
    obtain rfl | he := List.mem_cons.mp he
    · exact hpc
    · exact hbounded.entries e he
  · by_cases h00EE : i = .op00EE
    · subst h00EE
      exact hbounded.entries e (List.mem_of_mem_tail he)
    · rw [effect_stack (not_exists.mp h2NNN) h00EE] at he
      exact hbounded.entries e he

/-- Settles O19: both bounds are kept by every effect whose check has passed, and within them no sum reaches 65536. -/
theorem pcNeverWraps : Obligations.PcNeverWraps := by
  refine ⟨fun s t hbounded hstep => ?_, fun s hbounded hpc => ⟨by omega, fun e he => ?_, fun nnn => ?_⟩⟩
  · obtain ⟨i, ⟨hpc, -⟩, hcheck, rfl⟩ := step_eq_next_iff.mp hstep
    constructor
    · rw [endCycle_afterExec_programCounter]
      exact effect_programCounter_le hbounded hpc hcheck
    · rw [endCycle_afterExec_stack]
      exact effect_entries_le hbounded hpc
  · have hentry := hbounded.entries e he
    omega
  · have hnnn := nnn.isLt
    have hV0 := (s.V 0).isLt
    omega

/-- Settles O20: pc is 0 and there is no entry. -/
theorem resetPcBounded : Obligations.ResetPcBounded := ⟨Nat.zero_le _, fun _ he => absurd he List.not_mem_nil⟩

/-! ### ST is read by no instruction (R35) -/

theorem loadV_setSound (bytes : List Byte) (s : State) (v k : Nat) :
    (s.setSound v).loadV k bytes = (s.loadV k bytes).setSound v := by
  induction bytes generalizing s k with
  | nil => rfl
  | cons b bs ih => exact ih (s.setV (BitVec.ofNat 4 k) b) (k + 1)

theorem flipAll_setSound (pixels : List (Nat × Nat)) (s : State) (v : Nat) :
    (s.setSound v).flipAll pixels = ((s.flipAll pixels).1, (s.flipAll pixels).2.setSound v) := by
  induction pixels generalizing s with
  | nil => rfl
  | cons p ps ih =>
    have hrest : ((s.callFlip p.1 p.2).setSound v).flipAll ps = _ := ih (s.callFlip p.1 p.2)
    exact congrArg (fun later : Bool × State => (!s.flipAnswer || later.1, later.2)) hrest

theorem skipIf_setSound (s : State) (v : Nat) (condition : Bool) :
    (s.setSound v).skipIf condition = (s.skipIf condition).setSound v := by
  cases condition <;> rfl

theorem askKey_setSound (s : State) (v : Nat) (key : Option Key) :
    (s.setSound v).askKey key = ((s.askKey key).1, (s.askKey key).2.setSound v) := by
  cases key <;> rfl

theorem afterKey_setSound (s : State) (v : Nat) (x : Reg) (key : Option Key) :
    (s.setSound v).afterKey x key = (s.afterKey x key).setSound v := by
  cases key <;> rfl

theorem execFault_setSound (s : State) (v : Nat) (i : Instr) : (s.setSound v).execFault i = s.execFault i := by
  cases i <;> rfl

/-- The effect is the same but for ST, which FX18 writes anew and every other effect leaves. -/
theorem effect_setSound (s : State) (v : Nat) (i : Instr) :
    ∃ v', (s.setSound v).effect i = (s.effect i).setSound v' := by
  cases i
  case opFX18 x => exact ⟨s.heldTicks (s.toTicks (s.V x)), rfl⟩
  case opFX65 x => exact ⟨v, congrArg State.advance (loadV_setSound _ s v 0)⟩
  case opDXYN x y n =>
    exact ⟨v, congrArg (fun drawn : Bool × State => (drawn.2.setFlag (collisionFlag drawn.1)).advance)
      (flipAll_setSound (s.spriteOf x y n) s v)⟩
  case op3XNN | op4XNN | op5XY0 | op9XY0 => exact ⟨v, skipIf_setSound s v _⟩
  case opEX9E x =>
    have hasked := congrArg (fun asked : Bool × State => asked.2.skipIf asked.1) (askKey_setSound s v (s.keyIndex x))
    exact ⟨v, hasked.trans (skipIf_setSound _ v _)⟩
  case opEXA1 x =>
    have hasked := congrArg (fun asked : Bool × State => asked.2.skipIf !asked.1) (askKey_setSound s v (s.keyIndex x))
    exact ⟨v, hasked.trans (skipIf_setSound _ v _)⟩
  case opFX0A x => exact ⟨v, afterKey_setSound s v x _⟩
  all_goals exact ⟨v, rfl⟩

theorem endCycle_setSound (s : State) (v : Nat) : ∃ v', (s.setSound v).endCycle = s.endCycle.setSound v' := by
  simp only [State.endCycle_eq]
  exact ⟨_, rfl⟩

theorem endCycle_afterExec_setSound (s : State) (v : Nat) (i : Instr) :
    ∃ v', ((s.setSound v).afterExec i).endCycle = (s.afterExec i).endCycle.setSound v' := by
  obtain ⟨v', heffect⟩ := effect_setSound s v i
  have hafter : (s.setSound v).afterExec i = (s.afterExec i).setSound v' := by
    rw [State.afterExec, heffect]
    cases i <;> rfl
  rw [hafter]
  exact endCycle_setSound _ v'

/-- Settles O28: what a cycle fetches, decodes and checks does not name ST, and the effect differs in ST alone. -/
theorem soundTimerIsNeverRead : Obligations.SoundTimerIsNeverRead := by
  refine fun s v => ⟨fun t hstep => ?_, fun f hstep => ?_⟩
  · obtain ⟨i, hruns, hcheck, rfl⟩ := step_eq_next_iff.mp hstep
    obtain ⟨v', heq⟩ := endCycle_afterExec_setSound s v i
    exact ⟨v', step_eq_next_iff.mpr ⟨i, hruns, (execFault_setSound s v i).trans hcheck, heq.symm⟩⟩
  · refine step_eq_fault_iff.mpr ((step_eq_fault_iff.mp hstep).imp_right (Or.imp_right ?_))
    rintro ⟨i, hruns, hcheck⟩
    exact ⟨i, hruns, (execFault_setSound s v i).trans hcheck⟩

end Sys2Proof.Machine
end

/-! ## Proofs: instruction by instruction (spec/41_control_flow.md to spec/46_keyboard.md) -/

section

namespace Sys2Proof.Machine

/-! ### Return and call (R101, R103) -/

theorem complete_setStack_setPc (s : State) (stack : List Word) (pc : Word) :
    ∃ t, complete ((s.setStack stack).setPc pc) = .next t ∧ t.stack = stack ∧ t.programCounter = pc ∧
      t.report = .executed ∧ OnlyControlChanges s t :=
  ⟨_, rfl, rfl, rfl, rfl, onlyControlChanges_setStack_setPc s stack pc .executed⟩

theorem exec_op00EE_of_cons {s : State} {a : Word} {rest : List Word} (hstack : s.stack = a :: rest) :
    exec .op00EE s = complete ((s.setStack rest).setPc (a + 2)) := by
  simp only [exec, exec00EE, hstack]

theorem exec_op2NNN_of_not_full {s : State} (nnn : Addr12) (hlimit : s.stackLimit ≠ some s.stack.length) :
    exec (.op2NNN nnn) s = complete ((s.setStack (s.programCounter :: s.stack)).setPc (addressOf nnn)) :=
  if_neg (mt State.stackFull_iff.mp hlimit)

/-- Settles O34: with an entry the return completes with the stack and pc written, and without one its check fails. -/
theorem returnPopsStack : Obligations.ReturnPopsStack := by
  refine ⟨fun op hop => hop ▸ decode_00EE, fun s => ⟨fun hempty => ?_, fun a rest hstack => ?_⟩⟩
  · exact exec_eq_fault_iff.mpr (if_pos hempty)
  · obtain ⟨t, ht, hrest, hpc, hframe⟩ := complete_setStack_setPc s rest (a + 2)
    exact ⟨t, (exec_op00EE_of_cons hstack).trans ht, hrest, by rw [hpc, BitVec.toNat_add]; rfl, hframe⟩

/-- Settles O36: below the limit the call completes with the stack and pc written, and at it its check fails. -/
theorem callPushesOwnAddress : Obligations.CallPushesOwnAddress := by
  refine ⟨fun _ => decode_eq_op2NNN, fun s nnn => ⟨fun hlimit => ?_, fun hlimit => ?_⟩⟩
  · exact exec_eq_fault_iff.mpr (if_pos (State.stackFull_iff.mpr hlimit))
  · obtain ⟨t, ht, hstack, hpc, hframe⟩ := complete_setStack_setPc s (s.programCounter :: s.stack) (addressOf nnn)
    exact ⟨t, (exec_op2NNN_of_not_full nnn hlimit).trans ht, hstack, by rw [hpc, addressOf_toNat], hframe⟩

/-- Settles O32: the entry the call has pushed is the one the return pops. -/
theorem returnComesBackAfterCall : Obligations.ReturnComesBackAfterCall := by
  intro s t nnn hcall
  obtain ⟨-, rfl⟩ := exec_eq_next_iff.mp hcall
  have hstack : (s.afterExec (.op2NNN nnn)).stack = s.programCounter :: s.stack := rfl
  obtain ⟨u, hu, hrest, hpc, -⟩ := complete_setStack_setPc (s.afterExec (.op2NNN nnn)) s.stack (s.programCounter + 2)
  exact ⟨u, (exec_op00EE_of_cons hstack).trans hu, hrest, by rw [hpc, BitVec.toNat_add]; rfl⟩

/-! ### The skips on registers (R113, R114) -/

theorem exec_op5XY0 (x y : Reg) (n : BitVec 4) (s : State) :
    exec (.op5XY0 x y n) s = complete (s.skipIf (decide (s.V x = s.V y))) := rfl

theorem exec_op9XY0 (x y : Reg) (n : BitVec 4) (s : State) :
    exec (.op9XY0 x y n) s = complete (s.skipIf (decide (s.V x ≠ s.V y))) := rfl

/-- Settles O39: both complete with a skip, 5XY0 on equality of VX and VY, 9XY0 on its negation, which swaps the two
distances. -/
theorem skipsCompareRegisters : Obligations.SkipsCompareRegisters := by
  refine ⟨fun _ => ⟨decode_eq_op5XY0, decode_eq_op9XY0⟩, fun s x y n => ⟨?_, ?_⟩⟩
  · simpa only [exec_op5XY0, BitVec.toNat_inj] using complete_skipIf s (s.V x = s.V y)
  · simpa only [exec_op9XY0, BitVec.toNat_inj, ite_not] using complete_skipIf s (s.V x ≠ s.V y)

/-! ### The random byte (R133, R194) -/

/-- The answer a call gets is the first of those lined up, or the free one (R91). -/
theorem answerFrom_head {α : Type} (lined : List α) (free : α) : AnswerFrom lined free (lined.head?.getD free) := by
  cases lined with
  | nil => exact .inr ⟨rfl, rfl⟩
  | cons a rest => exact .inl ⟨rest, rfl⟩

theorem onlyCallsChange_refl (s : State) : OnlyCallsChange s s :=
  ⟨fun _ => rfl, rfl, rfl, ⟨rfl, rfl⟩, ⟨rfl, rfl, rfl, rfl⟩⟩

theorem exec_opCXNN (x : Reg) (nn : Byte) (s : State) :
    exec (.opCXNN x nn) s = complete (s.callRandom.setV x (s.randomAnswer &&& nn)).advance := rfl

/-- Settles O45: CXNN completes with one register write of a masked answer, after the one call that gave it. -/
theorem randomByteMasked : Obligations.RandomByteMasked := by
  refine ⟨fun _ => decode_eq_opCXNN, fun s x nn => ?_⟩
  obtain ⟨t, ht, hx, hregs, hpc, hreport, -⟩ := complete_setV s.callRandom x (s.randomAnswer &&& nn)
  obtain rfl := complete_eq_next.mp ht
  exact ⟨_, s.randomAnswer, exec_opCXNN x nn s, answerFrom_head _ _, rfl, fun b _ => by rw [hx, BitVec.getLsbD_and],
    hregs, hpc, hreport, onlyCallsChange_refl s, rfl, rfl, rfl, rfl, rfl⟩

/-! ### FX1E (R142) -/

theorem exec_opFX1E (x : Reg) (s : State) :
    exec (.opFX1E x) s = complete (s.setI (s.addressRegister + offsetOf (s.V x))).advance := rfl

/-- Settles O47: FX1E completes with one write of I, by a 16-bit sum. -/
theorem indexAddsRegister : Obligations.IndexAddsRegister := by
  refine ⟨fun _ hg hnn => decode_eq_decodeGroupF_of_nn hg hnn, fun s x => ?_⟩
  obtain ⟨t, ht, hI, hframe⟩ := complete_setI s (s.addressRegister + offsetOf (s.V x))
  exact ⟨t, (exec_opFX1E x s).trans ht, by rw [hI, BitVec.toNat_add, offsetOf_toNat], hframe⟩

/-! ### The stores (R144, R145) -/

theorem withSpan_of_out_of_range {s e : State} {n : Nat} (hpos : 0 < n) (hrange : 4096 < s.addressRegister.toNat + n) :
    withSpan s n e = .fault (.memoryOutOfRange (max s.addressRegister.toNat 4096)) :=
  withSpan_eq_fault.mpr ⟨hpos, hrange, rfl⟩

/-- A completed store: its bytes are at I and up, and every other byte reads as before. -/
theorem withSpan_store {s : State} {bytes : List Byte} (hwf : s.memory.wf = true)
    (hrange : s.addressRegister.toNat + bytes.length ≤ 4096) :
    ∃ t, withSpan s bytes.length (s.setMemory (s.memory.writeBytes s.addressRegister.toNat bytes)).advance = .next t ∧
      (∀ k, (hk : k < bytes.length) → t.memory.read (s.addressRegister.toNat + k) = bytes[k]) ∧
      (∀ a, a < s.addressRegister.toNat ∨ s.addressRegister.toNat + bytes.length ≤ a →
        t.memory.read a = s.memory.read a) ∧
      t.programCounter = s.programCounter + 2 ∧ t.report = .executed ∧ OnlyMemoryChanges s t :=
  ⟨_, withSpan_eq_next.mpr ⟨.inr hrange, rfl⟩, Memory.writeBytes_read_inside hwf hrange,
    fun _ => Memory.writeBytes_read_outside hwf hrange, rfl, rfl,
    fun _ => rfl, rfl, rfl, ⟨rfl, rfl⟩, ⟨rfl, rfl, rfl, rfl⟩, ⟨rfl, rfl, rfl, rfl, rfl, rfl⟩⟩

theorem exec_opFX33 (x : Reg) (s : State) :
    exec (.opFX33 x) s =
      withSpan s 3 (s.setMemory (s.memory.writeBytes s.addressRegister.toNat (decimalDigits (s.V x)))).advance := rfl

theorem exec_opFX55 (x : Reg) (s : State) :
    exec (.opFX55 x) s = withSpan s (s.block x).length
      (s.setMemory (s.memory.writeBytes s.addressRegister.toNat (s.block x))).advance := by
  rw [State.block_length]
  rfl

/-- A decimal digit fits a byte (R144). -/
theorem toNat_ofNat_of_le_byte (v : Byte) {d : Nat} (hd : d ≤ v.toNat) : (BitVec.ofNat 8 d).toNat = d := by
  rw [BitVec.toNat_ofNat, Nat.mod_eq_of_lt (hd.trans_lt v.isLt)]

/-- Settles O48: the store of the three digits, or the check of three bytes at I. -/
theorem decimalDigitsStored : Obligations.DecimalDigitsStored := by
  refine ⟨fun _ hg hnn => decode_eq_decodeGroupF_of_nn hg hnn, fun s x hwf => ⟨fun hI => ?_, fun hI => ?_⟩⟩
  · exact withSpan_of_out_of_range (by decide) (by omega)
  · have hlength : (decimalDigits (s.V x)).length = 3 := rfl
    obtain ⟨t, ht, hinside, houtside, hframe⟩ := withSpan_store (bytes := decimalDigits (s.V x)) hwf (by omega)
    refine ⟨t, (exec_opFX33 x s).trans ht, ?_, ?_, ?_, houtside, hframe⟩
    · exact (congrArg BitVec.toNat (hinside 0 (by omega))).trans (toNat_ofNat_of_le_byte (s.V x) (by omega))
    · exact (congrArg BitVec.toNat (hinside 1 (by omega))).trans (toNat_ofNat_of_le_byte (s.V x) (by omega))
    · exact (congrArg BitVec.toNat (hinside 2 (by omega))).trans (toNat_ofNat_of_le_byte (s.V x) (by omega))

/-- Settles O49: the store of the block V0 to VX, or the check of its bytes at I. -/
theorem registerBlockStored : Obligations.RegisterBlockStored := by
  refine ⟨fun _ hg hnn => decode_eq_decodeGroupF_of_nn hg hnn, fun s x hwf => ⟨fun hI => ?_, fun hI => ?_⟩⟩
  · exact withSpan_of_out_of_range (Nat.succ_pos _) (by omega)
  · have hlength := s.block_length x
    obtain ⟨t, ht, hinside, houtside, hframe⟩ := withSpan_store (bytes := s.block x) hwf (by omega)
    refine ⟨t, (exec_opFX55 x s).trans ht, fun k hk => ?_, fun a ha => houtside a (by omega), hframe⟩
    rw [hinside k.toNat (by omega), State.block_getElem, BitVec.ofNat_toNat, BitVec.setWidth_eq]

/-! ### The load (R146) -/

theorem exec_opFX65 (x : Reg) (s : State) :
    exec (.opFX65 x) s =
      withSpan s (x.toNat + 1) (s.loadV 0 (s.memory.readBytes s.addressRegister.toNat (x.toNat + 1))).advance := rfl

theorem loadV_V_of_le {s : State} {x r : Reg} (hr : r.toNat ≤ x.toNat) (a : Nat) :
    (s.loadV 0 (s.memory.readBytes a (x.toNat + 1))).V r = s.memory.read (a + r.toNat) := by
  have hx := x.isLt
  rw [State.loadV_V _ _ _ _ (by rw [Memory.readBytes_length]; omega), dif_pos (by rw [Memory.readBytes_length]; omega),
    Memory.readBytes_getElem, Nat.sub_zero]

theorem onlyRegistersChange_loadV (s : State) (k : Nat) (bytes : List Byte) :
    OnlyRegistersChange s (s.loadV k bytes) := by
  simp [OnlyRegistersChange, SameMemory, SameTimers, SameConfig, SameCollaborators]

/-- Settles O50: the load of the bytes at I, or their check; a register above VX is not loaded. -/
theorem registerBlockLoaded : Obligations.RegisterBlockLoaded := by
  refine ⟨fun _ hg hnn => decode_eq_decodeGroupF_of_nn hg hnn, fun s x => ⟨fun hI => ?_, fun hI => ?_⟩⟩
  · exact withSpan_of_out_of_range (Nat.succ_pos _) (by omega)
  · refine ⟨_, (exec_opFX65 x s).trans (withSpan_eq_next.mpr ⟨.inr (by omega), rfl⟩), fun k hk => ?_, fun k hk => ?_,
      ?_, rfl, onlyRegistersChange_loadV s 0 _⟩
    · exact loadV_V_of_le hk _
    · exact loadV_V_of_lt (Nat.lt_of_not_le hk) _ (Memory.readBytes_length ..)
    · simp

/-! ### The sprite (R152 to R155) -/

theorem exec_opDXYN (x y : Reg) (n : BitVec 4) (s : State) :
    exec (.opDXYN x y n) s = withSpan s n.toNat
      ((s.flipAll (s.spriteOf x y n)).2.setFlag (collisionFlag (s.flipAll (s.spriteOf x y n)).1)).advance := rfl

/-- The pixels are the set bits of the bytes at I and up, row by row (R153). -/
theorem spriteOf_eq (s : State) (x y : Reg) (n : BitVec 4) :
    s.spriteOf x y n = (List.range n.toNat).flatMap fun r =>
      (setColumns (s.memory.read (s.addressRegister.toNat + r))).map fun col =>
        ((s.V x).toNat + col, (s.V y).toNat + r) := by
  rw [State.spriteOf, spritePixels_eq, Memory.readBytes_length]
  refine List.flatMap_congr fun r hr => ?_
  have hlt : r < (s.memory.readBytes s.addressRegister.toNat n.toNat).length := by simpa using hr
  rw [List.getD_eq_getElem _ _ hlt, Memory.readBytes_getElem]

/-- The furthest pixel is 7 columns right of and 14 rows below the corner at V[X], V[Y] (R154). -/
theorem spriteOf_le {s : State} {x y : Reg} {n : BitVec 4} {p : Nat × Nat} (hp : p ∈ s.spriteOf x y n) :
    p.1 ≤ 262 ∧ p.2 ≤ 269 := by
  simp only [spriteOf_eq, setColumns, List.mem_flatMap, List.mem_map, List.mem_filter, List.mem_range] at hp
  obtain ⟨r, hr, col, ⟨hcol, -⟩, rfl⟩ := hp
  have hn := n.isLt
  have hx := (s.V x).isLt
  have hy := (s.V y).isLt
  dsimp only
  omega

@[simp] theorem State.flipAnswers_length (s : State) (n : Nat) : (s.flipAnswers n).length = n := by
  simp [State.flipAnswers]

theorem State.flipAnswers_getElem? (s : State) {n j : Nat} (hj : j < n) :
    (s.flipAnswers n)[j]? = some ((s.flipInputs[j]?).getD (Config.freeFlip (s.draws + j))) := by
  simp [State.flipAnswers, State.flipAnswerAt, hj]

theorem collisionFlag_toNat (s : State) (pixels : List (Nat × Nat)) :
    (collisionFlag (s.flipAll pixels).1).toNat = if false ∈ s.flipAnswers pixels.length then 1 else 0 := by
  simp only [collisionFlag, State.flipAll_collided]
  split <;> rfl

theorem onlyFlipAnswersTaken_flipAll (s : State) (pixels : List (Nat × Nat)) :
    OnlyFlipAnswersTaken pixels.length s (s.flipAll pixels).2 := by
  rw [State.flipAll_state]
  exact ⟨rfl, rfl, rfl, rfl, rfl⟩

theorem onlyCallsChange_flipAll (s : State) (pixels : List (Nat × Nat)) :
    OnlyCallsChange s (s.flipAll pixels).2 := by
  rw [State.flipAll_state]
  exact onlyCallsChange_refl s

/-- Settles O52: the flips of the sprite's pixels and then the collision to VF, or the check of the sprite's rows. -/
theorem spriteFlipsInOrder : Obligations.SpriteFlipsInOrder := by
  refine ⟨fun _ => decode_eq_opDXYN, fun s x y n => ⟨fun hpos hI => ?_, fun hI pixels hpixels => ?_⟩⟩
  · exact withSpan_of_out_of_range hpos (by omega)
  · obtain rfl : pixels = s.spriteOf x y n := hpixels.trans (spriteOf_eq s x y n).symm
    obtain ⟨t, ht, hF, hregs, hpc, hreport, -⟩ := complete_setV (s.flipAll (s.spriteOf x y n)).2 0xF
      (collisionFlag (s.flipAll (s.spriteOf x y n)).1)
    obtain rfl := complete_eq_next.mp ht
    refine ⟨_, s.flipAnswers (s.spriteOf x y n).length,
      (exec_opDXYN x y n s).trans (withSpan_eq_next.mpr ⟨by omega, rfl⟩), State.flipAnswers_length ..,
      fun j hj => s.flipAnswers_getElem? hj, s.flipAll_calls _, fun p hp => spriteOf_le hp, ?_, fun r hr => ?_, ?_, rfl,
      onlyCallsChange_flipAll s _, onlyFlipAnswersTaken_flipAll s _⟩
    · exact (congrArg BitVec.toNat hF).trans (collisionFlag_toNat s _)
    · exact (hregs r hr).trans (State.flipAll_V ..)
    · simp

/-! ### The keys (R160 to R163) -/

theorem exec_opEX9E (x : Reg) (s : State) :
    exec (.opEX9E x) s = complete ((s.askKey (s.keyIndex x)).2.skipIf (s.askKey (s.keyIndex x)).1) := rfl

theorem exec_opEXA1 (x : Reg) (s : State) :
    exec (.opEXA1 x) s = complete ((s.askKey (s.keyIndex x)).2.skipIf !(s.askKey (s.keyIndex x)).1) := rfl

theorem keyIndex_eq_some {s : State} {x : Reg} {k : Key}
    (hk : (s.skipKeyIndex = .nibbleX ∧ k = x) ∨ (s.skipKeyIndex = .registerVX ∧ k.toNat = (s.V x).toNat)) :
    s.keyIndex x = some k := by
  obtain ⟨hindex, rfl⟩ | ⟨hindex, hVX⟩ := hk
  · simp only [State.keyIndex, hindex]
  · have hlt := k.isLt
    have hkey : (s.V x).setWidth 4 = k := BitVec.eq_of_toNat_eq (by rw [BitVec.toNat_setWidth]; omega)
    simp only [State.keyIndex, hindex, hkey, if_pos (show (s.V x).toNat ≤ 15 by omega)]

theorem keyIndex_eq_none {s : State} {x : Reg} (hindex : s.skipKeyIndex = .registerVX) (hVX : 15 < (s.V x).toNat) :
    s.keyIndex x = none := by
  simp only [State.keyIndex, hindex, if_neg (Nat.not_le_of_lt hVX)]

/-- A completed skip on the answer of the one call, which alone it records and takes (R192). -/
theorem complete_skipIf_callPressed (s : State) (k : Key) (condition : Bool) :
    ∃ t, complete ((s.callPressed k).skipIf condition) = .next t ∧ t.calls = s.calls ++ [.pressed k s.pressedAnswer] ∧
      t.programCounter.toNat = (s.programCounter.toNat + if condition then 4 else 2) % 65536 ∧ t.report = .executed ∧
      SameRegisters s t ∧ OnlyCallsChange s t ∧ OnlyPressedAnswerTaken s t := by
  rw [skipIf_eq_setPc]
  refine ⟨_, rfl, rfl, ?_, rfl, fun _ => rfl, onlyCallsChange_refl s, rfl, rfl, rfl, rfl, rfl⟩
  cases condition <;> exact BitVec.toNat_add ..

/-- A completed skip that no call decides: nothing of the collaborators changes. -/
theorem complete_skipIf_uncalled (s : State) (condition : Bool) :
    ∃ t, complete (s.skipIf condition) = .next t ∧
      t.programCounter.toNat = (s.programCounter.toNat + if condition then 4 else 2) % 65536 ∧ t.report = .executed ∧
      SameRegisters s t ∧ OnlyCallsChange s t ∧ SameCollaborators s t := by
  rw [skipIf_eq_setPc]
  refine ⟨_, rfl, ?_, rfl, fun _ => rfl, onlyCallsChange_refl s, rfl, rfl, rfl, rfl, rfl, rfl⟩
  cases condition <;> exact BitVec.toNat_add ..

/-- Settles O53: the key named is asked once and the skip is on the answer or its negation; with no key named the answer
is no. -/
theorem keySkipsTestTheKey : Obligations.KeySkipsTestTheKey := by
  refine ⟨fun _ hg => ⟨decode_eq_decodeGroupE_of_nn hg, decode_eq_decodeGroupE_of_nn hg⟩,
    fun s x => ⟨fun k hk => ?_, fun hindex hVX => ?_⟩⟩
  · have hkey := keyIndex_eq_some hk
    obtain ⟨t, ht, hEX9E⟩ := complete_skipIf_callPressed s k s.pressedAnswer
    obtain ⟨u, hu, hEXA1⟩ := complete_skipIf_callPressed s k (!s.pressedAnswer)
    refine ⟨t, u, s.pressedAnswer, answerFrom_head _ _, ⟨?_, hEX9E⟩, ?_, ?_⟩
    · rw [exec_opEX9E, hkey]
      exact ht
    · rw [exec_opEXA1, hkey]
      exact hu
    · simpa only [Bool.not_eq_true', ← Bool.not_eq_true, ite_not] using hEXA1
  · have hkey := keyIndex_eq_none hindex hVX
    obtain ⟨t, ht, hEX9E⟩ := complete_skipIf_uncalled s false
    obtain ⟨u, hu, hEXA1⟩ := complete_skipIf_uncalled s true
    refine ⟨t, u, ⟨?_, hEX9E⟩, ?_, hEXA1⟩
    · rw [exec_opEX9E, hkey]
      exact ht
    · rw [exec_opEXA1, hkey]
      exact hu

theorem exec_opFX0A (x : Reg) (s : State) : exec (.opFX0A x) s = .next (s.afterKey x s.anyKeyAnswer) := rfl

theorem anyKeyAnswer_of_cons {s : State} {answer : Option Key} {later : List (Option Key)}
    (h : s.anyKeyInputs = answer :: later) : s.anyKeyAnswer = answer := by
  simp only [State.anyKeyAnswer, h, List.head?_cons, Option.getD_some]

theorem onlyCallsChange_afterKey (s : State) (x : Reg) (key : Option Key) : OnlyCallsChange s (s.afterKey x key) := by
  cases key <;> exact onlyCallsChange_refl s

theorem onlyAnyKeyAnswerTaken_afterKey (s : State) (x : Reg) (key : Option Key) :
    OnlyAnyKeyAnswerTaken s (s.afterKey x key) := by
  cases key <;> exact ⟨rfl, rfl, rfl, rfl, rfl⟩

theorem sameCpuState_afterKey_none (s : State) (x : Reg) : SameCpuState s (s.afterKey x none) :=
  ⟨rfl, rfl, rfl, rfl, rfl, ⟨rfl, rfl⟩, rfl⟩

/-- A key's index fits a register (R163). -/
theorem afterKey_some_V (s : State) (x : Reg) (k : Key) : ((s.afterKey x (some k)).V x).toNat = k.toNat := by
  have hV : (s.afterKey x (some k)).V x = k.setWidth 8 := State.setV_V_self s.callAnyKey x _
  rw [hV]
  exact BitVec.toNat_setWidth_of_le (by decide)

/-- Settles O54: FX0A answers the state after one call, by whether the answer is a key. -/
theorem waitForKeyLoadsIndex : Obligations.WaitForKeyLoadsIndex := by
  refine ⟨fun _ hg hnn => decode_eq_decodeGroupF_of_nn hg hnn, fun s x => ⟨fun k later hlined => ?_, ?_⟩⟩
  · exact ⟨_, anyKeyAnswer_of_cons hlined ▸ exec_opFX0A x s, rfl, afterKey_some_V s x k⟩
  · refine ⟨_, s.anyKeyAnswer, exec_opFX0A x s, answerFrom_head _ _, State.afterKey_calls ..,
      onlyAnyKeyAnswerTaken_afterKey s x _, onlyCallsChange_afterKey s x _, fun hnone => ?_, fun k hsome => ?_⟩
    · rw [hnone]
      exact ⟨rfl, sameCpuState_afterKey_none s x⟩
    · rw [hsome]
      exact ⟨rfl, afterKey_some_V s x k, fun r hr => afterKey_V_of_ne hr _, rfl⟩

end Sys2Proof.Machine
end

/-! ## Proofs: runs (spec/10_state.md R38, spec/20_memory.md R56, spec/41_control_flow.md R102) -/

section

namespace Sys2Proof.Machine

/-! ### A jump to itself (R92, R102) -/

/-- One cycle of a jump to itself leaves the state but for the timers and the report, and with it the jump. -/
theorem step_jump_to_self {s : State} {nnn : Addr12} (hruns : s.Runs (.op1NNN nnn))
    (hself : nnn.toNat = s.programCounter.toNat) : step s = .next (s.setReport .executed).tick := by
  have hpc : addressOf nnn = s.programCounter := BitVec.eq_of_toNat_eq ((addressOf_toNat nnn).trans hself)
  have hexec : exec (.op1NNN nnn) s = .next (s.setReport .executed) := by
    rw [exec_op1NNN, hpc]
    rfl
  exact step_eq_tick_of_exec hruns hexec rfl

/-- Settles O29: by induction on the number of cycles, each of which leaves the jump where it was. -/
theorem jumpToSelfOnlyTicks : Obligations.JumpToSelfOnlyTicks := by
  intro s nnn k hruns hself
  induction k generalizing s with
  | zero => exact ⟨s, rfl, rfl, rfl, rfl, rfl, rfl, rfl, rfl, ⟨rfl, rfl, rfl, rfl⟩, rfl, rfl, rfl, rfl, rfl, rfl⟩
  | succ k ih =>
    obtain ⟨t, hrun, hdelay, hsound, hframe⟩ := ih (s.setReport .executed).tick hruns hself
    refine ⟨t, (core_run_succ k (step_jump_to_self hruns hself)).trans hrun, ?_, ?_, hframe⟩
    · rw [hdelay, State.tick_delayTimer, State.setReport_delayTimer, Nat.sub_sub, Nat.add_comm]
    · rw [hsound, State.tick_soundTimer, State.setReport_soundTimer, Nat.sub_sub, Nat.add_comm]

/-! ### The wait for a key (R38, R163) -/

/-- One waiting cycle takes one answer and leaves the CPU state, and with it the wait. -/
theorem step_waits {s : State} {x : Reg} {later : List (Option Key)} (hruns : s.Runs (.opFX0A x))
    (hlined : s.anyKeyInputs = none :: later) : step s = .next (s.callAnyKey.setReport .waiting) := by
  have hexec : exec (.opFX0A x) s = .next (s.callAnyKey.setReport .waiting) := by
    rw [exec_opFX0A, anyKeyAnswer_of_cons hlined]
    rfl
  exact (step_eq_next_of_runs hruns).mpr ⟨_, hexec, rfl⟩

/-- The cycle that finds a key completes, and ticks (R163). -/
theorem step_finds_key {s : State} {x : Reg} {key : Key} {later : List (Option Key)} (hruns : s.Runs (.opFX0A x))
    (hlined : s.anyKeyInputs = some key :: later) : step s = .next (s.afterKey x (some key)).tick :=
  step_eq_tick_of_exec hruns (anyKeyAnswer_of_cons hlined ▸ exec_opFX0A x s) rfl

/-- Settles O30: by induction on the number of waiting cycles; after the last the first answer left is the key. -/
theorem keyWaitIsIdempotent : Obligations.KeyWaitIsIdempotent := by
  intro s x k rest hruns hlined
  induction k generalizing s with
  | zero =>
    refine ⟨s, rfl, ⟨rfl, rfl, rfl, rfl, rfl, ⟨rfl, rfl⟩, rfl⟩, hlined, fun key later hrest => ?_⟩
    have hkey : s.anyKeyInputs = some key :: later := hlined.trans hrest
    exact ⟨_, step_finds_key hruns hkey, afterKey_some_V s x key, BitVec.toNat_add .., rfl, rfl⟩
  | succ k ih =>
    obtain ⟨t, hrun, hframe⟩ := ih (s.callAnyKey.setReport .waiting) hruns (congrArg List.tail hlined)
    exact ⟨t, (core_run_succ k (step_waits hruns hlined)).trans hrun, hframe⟩

/-! ### Stored code (R56) -/

/-- Settles O31: V0 and V1 are the first two bytes FX55 stores, at the address pc has after the cycle. -/
theorem storedCodeIsFetched : Obligations.StoredCodeIsFetched := by
  intro s t x hwf hruns hx hI hstep
  obtain ⟨hcheck, rfl⟩ := eq_of_step_of_runs hruns hstep
  have hrange : s.addressRegister.toNat + (x.toNat + 1) ≤ 4096 :=
    access_le_memorySize (i := .opFX55 x) (Nat.succ_pos x.toNat) hcheck
  obtain ⟨-, hstore⟩ := registerBlockStored
  obtain ⟨u, hexec, hstored, -, hpc, -⟩ := (hstore s x hwf).2 (by omega)
  obtain ⟨-, rfl⟩ := exec_eq_next_iff.mp hexec
  have hnext : (s.afterExec (.opFX55 x)).programCounter.toNat = s.programCounter.toNat + 2 := by
    have htwo : (2 : Word).toNat = 2 := rfl
    rw [hpc, BitVec.toNat_add]
    omega
  have hV0 := hstored 0 (Nat.zero_le _)
  have hV1 := hstored 1 hx
  refine ⟨?_, (congrArg BitVec.toNat (State.endCycle_programCounter _)).trans hnext⟩
  rw [State.opcode, State.endCycle_memory, State.endCycle_programCounter, hnext, ← hI, Memory.readWord, bigEndian_toNat,
    ← hV0, ← hV1]
  rfl

end Sys2Proof.Machine
end

/-! ## Proofs: the host's boot (spec/70_reset_and_hazards.md R203) -/

section

namespace Sys2Proof.Machine

theorem hostLoad_of_fits {s : State} {base : Nat} {image : List Byte} (hfits : base + image.length ≤ 4096) :
    s.hostLoad base image = some (s.setMemory (s.memory.writeBytes base image)) :=
  if_pos hfits

theorem hostLoad_of_not_fits {s : State} {base : Nat} {image : List Byte} (hfits : 4096 < base + image.length) :
    s.hostLoad base image = none :=
  if_neg (Nat.not_le_of_lt hfits)

/-- The memory after a boot: the font from address 0, and over it the image (R203). -/
def bootMemory (font : List Byte) (base : Nat) (image : List Byte) : Memory :=
  (Memory.writeBytes [] 0 font).writeBytes base image

theorem boot_of_legal {c : Config} {font image : List Byte} {base : Nat} {entry : Word} (hc : c.wellFormed = true)
    (hfont : font.length ≤ 4096) (himage : base + image.length ≤ 4096) (hentry : entry.toNat ≤ 4094) :
    State.boot c font base image entry =
      some (((State.resetWith c).setMemory (bootMemory font base image)).setPc entry) := by
  have hlegal : (c.wellFormed && entryWellFormed entry) = true := by simp [hc, entryWellFormed, hentry]
  rw [State.boot, if_pos hlegal, hostLoad_of_fits (by omega)]
  dsimp only
  rw [hostLoad_of_fits himage]
  rfl

theorem bootMemory_wf {font image : List Byte} {base : Nat} (hfont : font.length ≤ 4096)
    (himage : base + image.length ≤ 4096) : (bootMemory font base image).wf = true :=
  Memory.writeBytes_wf himage (Memory.writeBytes_wf (by simpa using hfont) rfl)

/-- Settles O33: the image is the last store, and outside it the font's bytes are read. -/
theorem bootLoadsImages : Obligations.BootLoadsImages := by
  intro c font image base entry hc hfont himage hentry
  have hwf : (Memory.writeBytes [] 0 font).wf = true := Memory.writeBytes_wf (by simpa using hfont) rfl
  refine ⟨_, boot_of_legal hc hfont himage hentry, ?_, rfl, fun k hk => ?_, fun k hk houtside => ?_,
    State.resetWith_V c, rfl, rfl, rfl, rfl, rfl, rfl, rfl, rfl⟩
  · exact { resetWith_inv hc with memory := bootMemory_wf hfont himage }
  · have hread : (bootMemory font base image).read (base + k) = image[k] :=
      Memory.writeBytes_read_inside hwf himage k hk
    exact (List.getElem?_eq_getElem hk).trans (congrArg some hread.symm)
  · have hread : (bootMemory font base image).read k = (Memory.writeBytes [] 0 font).read (0 + k) :=
      (Nat.zero_add k).symm ▸ Memory.writeBytes_read_outside hwf himage houtside
    rw [Memory.writeBytes_read_inside rfl (by simpa using hfont) k hk] at hread
    exact (List.getElem?_eq_getElem hk).trans (congrArg some hread.symm)

/-- Settles O58: the test of the parameters comes first, and each load answers `none` for an image that does not fit. -/
theorem bootRejectsIllegalArguments : Obligations.BootRejectsIllegalArguments := by
  intro c font image base entry h
  obtain hc | hfont | himage | hentry := h
  · simp [State.boot, hc]
  · simp [State.boot, hostLoad_of_not_fits (s := State.resetWith c) ((Nat.zero_add font.length).symm ▸ hfont)]
  · unfold State.boot
    split
    · split
      · rfl
      · rw [hostLoad_of_not_fits himage]
    · rfl
  · simp [State.boot, entryWellFormed, Nat.not_le_of_lt hentry]

end Sys2Proof.Machine
end
